-- ==== Sys2Proof/Word.lean ====
section
/-! DEFINITION. The word types of the clock-tree controller CTC-1 (spec/00_scope.md R13, R14; spec/10_state.md). -/

namespace Sys2Proof

/-- A 32-bit host-window register, a frequency in hertz, or half of a command or response word (R13, R33 to R40). -/
abbrev Word := BitVec 32

/-- The 64-bit command word `{CMD_HI, CMD_LO}` (R100). -/
abbrev CmdWord := BitVec 64

/-- A GeneratorId, 0..7 (R8, R13). -/
abbrev GenId := Fin 8

end Sys2Proof
end

