-- ==== Sys2Proof/Config.lean ====
section
/-! DEFINITION. What an implementation of CTC-1 fixes, and the free values of its environment
(spec/00_scope.md R8 to R13; spec/20_memory.md R77, R80, R81; spec/43_gating_block.md R250 to R252). -/

namespace Sys2Proof

/-- The registers of the four external blocks, as the register catalog R77 names them. -/
inductive Reg
  | gtCtrl | gtStatus | gtGendiv | gtGenctrl | gtClkctrl
  | oscInt32k | oscExt32k | oscRc8m | oscStatus | oscMultCtrl | oscMultVal | oscMultMul
  | busMask | busCpudiv | busAdiv | busBdiv | busCdiv
  | flashCtrl
  deriving DecidableEq, Repr, Inhabited

/-- The field names of the register catalog R77. `ident` is the catalog's ID and `other` the opaque remainder OTHER
that every register has. -/
inductive RegField
  | swrst | syncbusy | ident | div | src | genen | idc | oe | divsel | runstdby | gen | clken
  | enable | startup | presc | int32kRdy | ext32kRdy | multRdy | multLockc | multLockf
  | ondemand | mode | ccdis | bplckc | waitlock | qldis | usbcrm
  | coarse | fine | mul | cstep | fstep | gt | rws | other
  deriving DecidableEq, Repr, Inhabited

/-- A field-value map of one register. The port carries field values, not bits (R74), and every value is an unsigned
number (R14), so a value is a natural number; a field that is not listed has the value 0. -/
abbrev FieldMap := List (RegField × Nat)

/-- The control half of a generator bank, the fields a GT.GENCTRL write replaces (R250, R261). -/
structure GenCtl where
  src      : Nat
  genen    : Nat
  idc      : Nat
  oe       : Nat
  divsel   : Nat
  runstdby : Nat
  deriving DecidableEq, Repr, Inhabited

/-- A generator bank `GEN[g]` of the gating block (R250). -/
structure GenBank where
  div : Nat
  ctl : GenCtl
  deriving DecidableEq, Repr, Inhabited

/-- A channel bank `CH[c]` of the gating block (R250). -/
structure ChanBank where
  gen   : Nat
  clken : Nat
  deriving DecidableEq, Repr, Inhabited

/-- The update a write leaves in flight (R255). -/
inductive Update
  | reset
  | div (i v : Nat)
  | genctrl (i : Nat) (b : GenCtl)
  | selgen (v : Nat)
  | chan (c g e : Nat)
  | selch (v : Nat)
  deriving DecidableEq, Repr, Inhabited

/-- What the environment offers to one CTC step: the raw values of a `PortRead` draw (R80) and of a `CalRead` draw (R81), which
the step that uses them cuts to the field widths; and what an 8-bit write the spec gives no effect to does (assumption 13):
the update it records, if any, and the bus-clock gate after it. -/
structure Answer where
  fields     : FieldMap
  coarse     : Nat
  fine       : Nat
  byteUpdate : Option Update := none
  byteGate   : Bool := false
  deriving DecidableEq, Repr, Inhabited

/-- The parameters of an instance (R9 to R12). A state carries its instance, no step changes it, and a statement about every
state is therefore a statement about every instance. -/
structure Config where
  /-- `BASE`, the host window's base address (R71). -/
  base : Nat
  /-- `NUM_CHANNELS` (R9). -/
  numChannels : Nat
  /-- `MULT_REF_CH` (R10). -/
  multRefCh : Nat
  /-- Whether the optional module of 43_gating_block.md gives the GT registers and BUS.MASK.GT their values (R6, R80). -/
  gating : Bool
  /-- `OPEN_LOOP_STAGE_MUL` (R182). -/
  openLoopStageMul : Bool
  /-- `FLASH_WS_48M` (R171). -/
  flashWs48m : Nat
  /-- `STARTUP_INT32K` (R173). -/
  startupInt32k : Nat
  /-- `STARTUP_EXT32K` (R173). -/
  startupExt32k : Nat
  /-- `OSC_EXTRA_INT32K`, the value of the remainder OTHER of OSC.INT32K in the start write (R173). -/
  oscExtraInt32k : Nat
  /-- `OSC_EXTRA_EXT32K`, as above for OSC.EXT32K (R173). -/
  oscExtraExt32k : Nat
  /-- `PRESC_DIV1` (R184). -/
  prescDiv1 : Nat
  /-- `DIV1` (R184). -/
  div1 : Nat
  /-- `SRC_CODE`, listed by the SRC number of the source kind (R150, R102). -/
  srcCode : Vector Nat 8
  /-- `CAL_COARSE_W` (R81, R181). -/
  calCoarseW : Nat
  /-- `CAL_FINE_W` (R81). -/
  calFineW : Nat
  /-- The width of OSC.INT32K.STARTUP, a parameter (R77). -/
  startupInt32kW : Nat
  /-- The width of OSC.EXT32K.STARTUP, a parameter (R77). -/
  startupExt32kW : Nat
  /-- The width of OSC.RC8M.PRESC, a parameter (R77). -/
  prescW : Nat
  /-- The width of BUS.CPUDIV.DIV, a parameter (R77). -/
  cpuDivW : Nat
  /-- The width of BUS.ADIV.DIV, a parameter (R77). -/
  aDivW : Nat
  /-- The width of BUS.BDIV.DIV, a parameter (R77). -/
  bDivW : Nat
  /-- The width of BUS.CDIV.DIV, a parameter (R77). -/
  cDivW : Nat
  /-- The width of FLASH.CTRL.RWS, a parameter (R77). -/
  rwsW : Nat
  /-- The bits by which `REG_LAYOUT` makes a field wider than the minimum width of R77; a field not listed has none. -/
  extraBits : List ((Reg × RegField) × Nat)
  /-- `GEN_POR` (R252). -/
  genPor : Vector GenBank 8
  /-- `CH_POR` (R252); the entries from `NUM_CHANNELS` on stand for nothing. -/
  chPor : Vector ChanBank 64
  /-- `BUS_GT_POR` (R252). -/
  busGtPor : Bool
  deriving DecidableEq, Repr, Inhabited

/-- The parameters to which the spec gives no value at all, as one implementation fixes them. -/
structure OpenParams where
  flashWs48m     : Nat
  startupInt32k  : Nat
  startupExt32k  : Nat
  oscExtraInt32k : Nat
  oscExtraExt32k : Nat
  prescDiv1      : Nat
  div1           : Nat
  srcCode        : Vector Nat 8
  calCoarseW     : Nat
  calFineW       : Nat
  startupInt32kW : Nat
  startupExt32kW : Nat
  prescW         : Nat
  cpuDivW        : Nat
  aDivW          : Nat
  bDivW          : Nat
  cDivW          : Nat
  rwsW           : Nat
  genPor         : Vector GenBank 8
  chPor          : Vector ChanBank 64
  busGtPor       : Bool
  deriving Inhabited

/-- FREE VALUE (assumption 2): the open parameters of the instance that `State.reset` carries. No body: nothing is known
of them. -/
opaque Config.openParams : OpenParams

/-- FREE VALUE (assumption 5): what ENV answers in the n-th step that no entry of the state's agenda scripts (R80, R81:
"every value ENV returns to a `PortRead` is a draw"). No body. -/
opaque Config.freeAnswer : Nat → Answer

/-- The instance that `State.reset` carries (assumption 2): NUM_CHANNELS = 37 and MULT_REF_CH = 0, the instance of the
spec's worked programs (R10); OPEN_LOOP_STAGE_MUL true, its default (R182); the optional module used (R6); BASE = 0; no field wider
than its minimum width; every parameter without a value in the spec free, each of its own, cut to its width so that it fits
(R75, R77, R181, R251, R252). DIV1 goes into four fields (R184), so it is cut to the narrowest of them. -/
def Config.worked : Config where
  base := 0
  numChannels := 37
  multRefCh := 0
  gating := true
  openLoopStageMul := true
  flashWs48m := openParams.flashWs48m % 2 ^ openParams.rwsW
  startupInt32k := openParams.startupInt32k % 2 ^ openParams.startupInt32kW
  startupExt32k := openParams.startupExt32k % 2 ^ openParams.startupExt32kW
  oscExtraInt32k := openParams.oscExtraInt32k
  oscExtraExt32k := openParams.oscExtraExt32k
  prescDiv1 := openParams.prescDiv1 % 2 ^ openParams.prescW
  div1 := openParams.div1 % 2 ^ min (min openParams.cpuDivW openParams.aDivW) (min openParams.bDivW openParams.cDivW)
  srcCode := openParams.srcCode.map (· % 8)
  calCoarseW := openParams.calCoarseW % 8
  calFineW := openParams.calFineW
  startupInt32kW := openParams.startupInt32kW
  startupExt32kW := openParams.startupExt32kW
  prescW := openParams.prescW
  cpuDivW := openParams.cpuDivW
  aDivW := openParams.aDivW
  bDivW := openParams.bDivW
  cDivW := openParams.cDivW
  rwsW := openParams.rwsW
  extraBits := []
  genPor := Vector.ofFn fun g : Fin 8 =>
    let b := (openParams.genPor.get g).ctl
    { div := (openParams.genPor.get g).div % 2 ^ (if g = 1 then 16 else if g = 2 then 5 else 8)
      ctl := { src := b.src % 8, genen := b.genen % 2, idc := b.idc % 2, oe := b.oe % 2, divsel := b.divsel % 2,
               runstdby := b.runstdby % 2 } }
  chPor := openParams.chPor.map fun b => { gen := b.gen % 8, clken := b.clken % 2 }
  busGtPor := openParams.busGtPor

end Sys2Proof
end

