-- ==== Sys2Proof/Syntax.lean ====
section
/-! DEFINITION. The six commands of CTC-1, one constructor for each row of spec/opcode_table.json
(spec/30_encoding.md R104; spec/00_scope.md R3, R16). -/

namespace Sys2Proof

/-- SourceKind, in the source's order (R16, R102). -/
inductive SourceKind
  | int32k | ext32k | rc8m | mult48m | pll96m | gen1 | rawin | xtal
  deriving DecidableEq, Repr, Inhabited

/-- The reference variant of a 48 MHz bring-up, in the order of R103; `openLoop` is the spec's OPEN. -/
inductive Variant
  | int32k | ext32k | usb | openLoop
  deriving DecidableEq, Repr, Inhabited

/-- A host command. A channel and a divider are plain numbers here, as the assembler syntax R115 spells them; `Instr.wf`
says which of them a command word can carry. -/
inductive Instr
  /-- `BRINGUP48 ref=<var>` (R185). -/
  | bringup48 (var : Variant)
  /-- `BRINGUP8` (R191). -/
  | bringup8
  /-- `LOOKUP g<n>` (R210). -/
  | lookup (g : GenId)
  /-- `CLAIM g<n>, src=<kind>, div=<d>[, idc]` (R219). -/
  | claim (g : GenId) (idc : Bool) (src : SourceKind) (d : Nat)
  /-- `ENABLE ch<c>, g<n>` (R224). -/
  | enable (ch : Nat) (g : GenId)
  /-- `STANDBY g<n>, on|off` (R227). -/
  | standby (g : GenId) (en : Bool)
  deriving DecidableEq, Repr, Inhabited

end Sys2Proof
end

