-- ==== Sys2Proof/WellFormed.lean ====
section
/-! DEFINITION. Which commands a command word can carry (spec/30_encoding.md R100, R101; spec/00_scope.md R13). Which
parameters make an instance is `Config.wf` in Machine/Catalog.lean, where the field widths stand. -/

namespace Sys2Proof

/-- A command is well formed when its channel fits the 6 bits of CH and its divider the 32 bits of DIV (R100, R101). A
GeneratorId, a SourceKind and a Variant always fit their fields (R101 to R103). -/
def Instr.wf : Instr → Bool
  | .bringup48 _ => true
  | .bringup8 => true
  | .lookup _ => true
  | .claim _ _ _ d => decide (d < 2 ^ 32)
  | .enable ch _ => decide (ch < 64)
  | .standby _ _ => true

end Sys2Proof
end

