-- ==== Sys2Proof/Decode.lean ====
section
/-! DEFINITION. The command word's fields, the opcode map, decoding and encoding (spec/30_encoding.md R100 to R105, R110 to
R112, R114). -/

namespace Sys2Proof

/-- The OP numbers of R104. -/
def Instr.opcode : Instr → BitVec 4
  | .bringup48 _ => 1
  | .bringup8 => 2
  | .lookup _ => 3
  | .claim _ _ _ _ => 4
  | .enable _ _ => 5
  | .standby _ _ => 6

/-- The SRC number of a source kind (R102). -/
def SourceKind.number : SourceKind → Fin 8
  | .int32k => 0
  | .ext32k => 1
  | .rc8m => 2
  | .mult48m => 3
  | .pll96m => 4
  | .gen1 => 5
  | .rawin => 6
  | .xtal => 7

/-- The source kind of a SRC number: "Every value 0..7 names a kind" (R102). -/
def SourceKind.ofNumber : Fin 8 → SourceKind
  | 0 => .int32k
  | 1 => .ext32k
  | 2 => .rc8m
  | 3 => .mult48m
  | 4 => .pll96m
  | 5 => .gen1
  | 6 => .rawin
  | 7 => .xtal

/-- The VAR number of a reference variant (R103). -/
def Variant.number : Variant → Fin 4
  | .int32k => 0
  | .ext32k => 1
  | .usb => 2
  | .openLoop => 3

/-- The variant of a VAR number: "Every value names a variant" (R103). -/
def Variant.ofNumber : Fin 4 → Variant
  | 0 => .int32k
  | 1 => .ext32k
  | 2 => .usb
  | 3 => .openLoop

/-- `OP = CUR[3:0]` (R100). -/
def fieldOp (w : CmdWord) : BitVec 4 := w.extractLsb' 0 4
/-- `GEN = CUR[6:4]` (R101). -/
def fieldGen (w : CmdWord) : GenId := (w.extractLsb' 4 3).toFin
/-- `FLAG = CUR[7]` (R101). -/
def fieldFlag (w : CmdWord) : Bool := w.getLsbD 7
/-- `SRC = CUR[10:8]` (R101). -/
def fieldSrc (w : CmdWord) : SourceKind := .ofNumber (w.extractLsb' 8 3).toFin
/-- `VAR = CUR[13:12]` (R101). -/
def fieldVar (w : CmdWord) : Variant := .ofNumber (w.extractLsb' 12 2).toFin
/-- `CH = CUR[21:16]` (R101). -/
def fieldCh (w : CmdWord) : Nat := (w.extractLsb' 16 6).toNat
/-- `DIV = CUR[63:32]` (R101). -/
def fieldDiv (w : CmdWord) : Nat := (w.extractLsb' 32 32).toNat

/-- One row of the opcode map: a command is that opcode when `CUR & mask = match` (R105). -/
structure OpRow where
  mnemonic : String
  pattern  : CmdWord
  mask     : CmdWord
  deriving DecidableEq, Repr

/-- The match/mask pairs of R105, in the table's order. -/
def opTable : List OpRow :=
  [ ⟨"BRINGUP48", 0x0000000000000001, 0xFFFFFFFFFFFFCFFF⟩,
    ⟨"BRINGUP8",  0x0000000000000002, 0xFFFFFFFFFFFFFFFF⟩,
    ⟨"LOOKUP",    0x0000000000000003, 0xFFFFFFFFFFFFFF8F⟩,
    ⟨"CLAIM",     0x0000000000000004, 0x00000000FFFFF80F⟩,
    ⟨"ENABLE",    0x0000000000000005, 0xFFFFFFFFFFC0FF8F⟩,
    ⟨"STANDBY",   0x0000000000000006, 0xFFFFFFFFFFFFFF0F⟩ ]

/-- The row of an opcode, none for the reserved opcodes 0x0 and 0x7 to 0xF (R104, R111). -/
def opRow (op : BitVec 4) : Option OpRow :=
  if op.toNat = 0 then none else opTable[op.toNat - 1]?

/-- The command a word with an admitted opcode and clear reserved bits spells (R101, R104). -/
def assemble (w : CmdWord) : Option Instr :=
  match (fieldOp w).toNat with
  | 1 => some (.bringup48 (fieldVar w))
  | 2 => some .bringup8
  | 3 => some (.lookup (fieldGen w))
  | 4 => some (.claim (fieldGen w) (fieldFlag w) (fieldSrc w) (fieldDiv w))
  | 5 => some (.enable (fieldCh w) (fieldGen w))
  | 6 => some (.standby (fieldGen w) (fieldFlag w))
  | _ => none

/-- Why a word is no command (R111, R112). -/
inductive Reject
  | reservedOpcode
  | reservedField
  deriving DecidableEq, Repr

/-- Decode, total on any 64-bit word, in the order of R110: the opcode first, then the mask test. (The phase test of R113
needs the state and stands in `Machine.inPhase`.) -/
def decode (w : CmdWord) : Except Reject Instr :=
  match opRow (fieldOp w), assemble w with
  | some row, some i => if w &&& row.mask = row.pattern then .ok i else .error .reservedField
  | _, _ => .error .reservedOpcode

/-- The six fields laid out as the pattern string of R100 lays them, the reserved bits 0. -/
def layOut (d : BitVec 32) (ch : BitVec 6) (var : BitVec 2) (src : BitVec 3) (flag : Bool) (g : BitVec 3)
    (op : BitVec 4) : CmdWord :=
  d ++ (0#10 ++ (ch ++ (0#2 ++ (var ++ (0#1 ++ (src ++ (BitVec.ofBool flag ++ (g ++ op))))))))

/-- A GeneratorId as the 3 bits of a GEN field (R100, R106). -/
def genBits (g : GenId) : BitVec 3 := BitVec.ofFin g

/-- The word of a command: the fields its opcode uses from its operands, every other field 0 (R104, R105). -/
def encode : Instr → CmdWord
  | .bringup48 var => layOut 0 0 (BitVec.ofFin var.number) 0 false 0 1
  | .bringup8 => layOut 0 0 0 0 false 0 2
  | .lookup g => layOut 0 0 0 0 false (genBits g) 3
  | .claim g idc src d => layOut (BitVec.ofNat 32 d) 0 0 (BitVec.ofFin src.number) idc (genBits g) 4
  | .enable ch g => layOut 0 (BitVec.ofNat 6 ch) 0 0 false (genBits g) 5
  | .standby g en => layOut 0 0 0 0 en (genBits g) 6

/-- The command word whose table bits are `w`: `nbits` of them, every higher bit 0; none when the row would be longer than
the one format of 64 bits (R100, R114). -/
def tableWord (nbits w : Nat) : Option CmdWord :=
  if nbits ≤ 64 then some (BitVec.ofNat 64 (w % 2 ^ nbits)) else none

/-- What `decode` reads from a row of spec/opcode_table.json. The table's bit numbers are the command word's own: bits 31:0
are the word at offset 0x00, bits 63:32 the word at offset 0x04 (R82, R100). -/
def decodeTableWord (nbits w : Nat) : Option Instr :=
  match tableWord nbits w with
  | some c => (decode c).toOption
  | none => none

end Sys2Proof
end

