-- ==== Sys2Proof/Machine/State.lean ====
section
/-! DEFINITION. The state of the machine as plain data, the reasons a step can stop, and the state at chip power-on
(spec/10_state.md; spec/40_sequencer.md R142; spec/43_gating_block.md R250, R252, R255). -/

namespace Sys2Proof.Machine

/-- PHASE (R24). Encoding 3 is never held, so there is no fourth constructor. -/
inductive Phase
  | powerOn | configured | halted
  deriving DecidableEq, Repr, Inhabited

/-- The STATUS values a response can have (R107); 4 to 15 are never produced. -/
inductive Status
  | ok | noResult | illegal | fatal
  deriving DecidableEq, Repr, Inhabited

/-- The KIND values a response can have (R108); 3 to 15 are never produced. -/
inductive Kind
  | empty | handle | token
  deriving DecidableEq, Repr, Inhabited

/-- The CAUSE codes of R109; `success` is the code 0x00 of every OK response. -/
inductive Cause
  | success
  | genAlreadyConfigured | genNotConfigured | channelAlreadyUsed
  | reservedOpcode | reservedField | wrongPhase | channelOutOfRange | invalidHandle
  | dividerOutOfRange | unimplementedSource | zeroFrequency
  deriving DecidableEq, Repr, Inhabited

/-- The arguments of `RESP(status, cause, kind, gen, ch, freq, phase)` (R145). An omitted argument is 0, kind EMPTY; `phase`
is `none` where no phase is given. -/
structure Resp where
  status : Status := .ok
  cause  : Cause := .success
  kind   : Kind := .empty
  gen    : GenId := 0
  ch     : BitVec 6 := 0
  freq   : Word := 0
  phase  : Option Phase := none
  deriving DecidableEq, Repr, Inhabited

/-- A field value of a WR or WRM: "expressions over CUR, CALBUF, parameters and constants, evaluated when the
micro-operation executes" (R142). What comes from CUR and the parameters does not change while the command runs and is a
literal; what comes from CALBUF is read late. -/
inductive Val
  | lit (n : Nat)
  /-- `CALBUF.coarse` (R176). -/
  | calCoarse
  /-- `CALBUF.fine` (R176). -/
  | calFine
  /-- `CALBUF.coarse // 4` (R177, R181). -/
  | calCoarseQuarter
  deriving DecidableEq, Repr, Inhabited

/-- The micro-operations of R142. A poll's predicate is a list of fields that must each read the listed value. -/
inductive MicroOp
  | wr (r : Reg) (fs : List (RegField × Val))
  | wr8 (r : Reg) (v : Nat)
  | rd (r : Reg)
  | wrm (r : Reg) (fs : List (RegField × Val))
  | poll (r : Reg) (pred : List (RegField × Nat)) (back : Nat)
  | cal
  | setft (g : GenId) (v : Word)
  | setuse (c : Nat)
  | resp (p : Resp)
  deriving DecidableEq, Repr, Inhabited

/-- CALBUF (R32). -/
structure CalBuf where
  coarse : Nat
  fine   : Nat
  deriving DecidableEq, Repr, Inhabited

/-- The gating block's state (R250), ENV's. `chans` has an entry for each of the 64 possible channels; those from
NUM_CHANNELS on stand for nothing. -/
structure GtState where
  gten     : Bool
  gens     : Vector GenBank 8
  chans    : Vector ChanBank 64
  selGen   : GenId
  selCh    : Nat
  swrst    : Bool
  syncbusy : Bool
  pending  : Option Update
  deriving DecidableEq, Repr, Inhabited

/-- One completed transaction of the block's master ports (R75, R76, R78, R81), with the values it carried. -/
inductive Txn
  | write (r : Reg) (m : FieldMap)
  | write8 (r : Reg) (v : Nat)
  | read (r : Reg) (m : FieldMap)
  | cal (c : CalBuf)
  deriving DecidableEq, Repr, Inhabited

/-- One access of the HOST agent (R71 to R73): its direction, its width in bits, its address in the platform's map, and the
data of a 32-bit store. -/
structure HostAccess where
  store : Bool
  width : Nat
  addr  : Nat
  data  : Word
  deriving DecidableEq, Repr, Inhabited

/-- What the platform's bus hands back to the HOST for its last access that took effect or was dropped. -/
inductive HostReply
  | none
  | loaded (v : Word)
  | stored
  deriving DecidableEq, Repr, Inhabited

/-- Whose step comes next (R20, R258, R300, R330): HOST makes an access; the CTC takes a step, ENV answering it; GTSYNC takes a
step; the platform asserts `rst`; the chip powers on. -/
inductive Turn
  | host (a : HostAccess)
  | ctc (ans : Answer)
  | gtsync
  | blockReset
  | powerOn
  deriving DecidableEq, Repr, Inhabited

/-- The machine's state. The fields from `hostReply` on are the MODEL's own (INVENTORY.md, State). -/
structure State where
  /-- The instance's parameters; no step changes them. -/
  cfg : Config
  /-- FT, the FrequencyTable (R21). -/
  ft : Vector Word 8
  /-- USAGE, the UsageSet (R23). -/
  usage : BitVec 64
  /-- PHASE (R24). -/
  phase : Phase
  /-- BUSY (R27). -/
  busy : Bool
  /-- CUR (R28). -/
  cur : CmdWord
  /-- PROG (R29). -/
  prog : List MicroOp
  /-- MPC, the micro-program counter (R30). -/
  mpc : Nat
  /-- MODBUF (R31). -/
  modbuf : FieldMap
  /-- CALBUF (R32). -/
  calbuf : CalBuf
  /-- CMD_LO (R33). -/
  cmdLo : Word
  /-- CMD_HI (R34). -/
  cmdHi : Word
  /-- RSP_LO (R35). -/
  rspLo : Word
  /-- RSP_HI (R36). -/
  rspHi : Word
  /-- CSR.RSP_VALID (R37). -/
  rspValid : Bool
  /-- CSR.DROP (R37). -/
  drop : Bool
  /-- The gating block (R250), ENV's state and not reset by block reset (R332). -/
  gt : GtState
  /-- Model's own: what the HOST's last access got back. -/
  hostReply : HostReply
  /-- Model's own: the block's port transactions so far, the newest first. -/
  trace : List Txn
  /-- Model's own: the steps the agents take next, and ENV's answers to them. -/
  agenda : List Turn
  /-- Model's own: how many steps have taken their answer from `Config.freeAnswer`. -/
  drawIx : Nat
  deriving DecidableEq, Repr

/-- Why a host access is a bus error (R73, R301). -/
inductive BusErrorKind
  | width | alignment | reservedOffset | readOnly
  deriving DecidableEq, Repr

/-- Why the machine stops with a fault. -/
inductive Fault
  /-- Raised by a host access that is not 32 bits wide, not 4-byte aligned, at a reserved offset, or a store to a read-only
  register: "A model treats a bus error as a fault of the HOST agent" (R73). Safe. -/
  | hostBusError (why : BusErrorKind)
  /-- Raised by a register-port write to a GT register while an update is in flight, GT_WRITE_DURING_SYNC (R257). Safe. -/
  | gtWriteDuringSync
  /-- Raised by a CTC step with BUSY = 1 and no micro-operation at MPC, which R141 rules out ("PROG always ends with one RESP
  micro-operation"). No reachable state raises it. Safe. -/
  | noMicroOp
  deriving DecidableEq, Repr

/-- Why a step has no meaning in this model. -/
inductive Refusal
  /-- Raised by an arm of `exec` whose command has no meaning yet; no arm is left so. Safe. -/
  | notModelled (mnemonic : String)
  /-- Raised by a host access outside the window's 0x80 bytes: what stands there is the platform's (R71). Safe. -/
  | outsideWindow
  deriving DecidableEq, Repr

/-- The gating block at chip power-on (R252). -/
def GtState.powerOn (c : Config) : GtState where
  gten := c.busGtPor
  gens := c.genPor
  chans := c.chPor
  selGen := 0
  selCh := 0
  swrst := false
  syncbusy := false
  pending := none

/-- The machine right after chip power-on with `rst` released: the CTC as R48 lists it, the gating block as R252 does. -/
def State.reset : State where
  cfg := .worked
  ft := Vector.replicate 8 0
  usage := 0
  phase := .powerOn
  busy := false
  cur := 0
  prog := []
  mpc := 0
  modbuf := []
  calbuf := { coarse := 0, fine := 0 }
  cmdLo := 0
  cmdHi := 0
  rspLo := 0
  rspHi := 0
  rspValid := false
  drop := false
  gt := .powerOn .worked
  hostReply := .none
  trace := []
  agenda := []
  drawIx := 0

end Sys2Proof.Machine
end

