-- ==== Sys2Proof/Machine/Catalog.lean ====
section
/-! DEFINITION. The register catalog: every register the block reaches, its fields and their widths (spec/20_memory.md R77), the
divider maxima and field widths (spec/40_sequencer.md R149; spec/43_gating_block.md R251), and the conditions on an instance's
parameters. -/

namespace Sys2Proof.Machine

/-- The fields of a register, in the catalog's order, OTHER last (R77). -/
def regFields : Reg → List RegField
  | .gtCtrl => [.swrst, .other]
  | .gtStatus => [.syncbusy, .other]
  | .gtGendiv => [.ident, .div, .other]
  | .gtGenctrl => [.ident, .src, .genen, .idc, .oe, .divsel, .runstdby, .other]
  | .gtClkctrl => [.ident, .gen, .clken, .other]
  | .oscInt32k => [.enable, .startup, .other]
  | .oscExt32k => [.enable, .startup, .other]
  | .oscRc8m => [.presc, .other]
  | .oscStatus => [.int32kRdy, .ext32kRdy, .multRdy, .multLockc, .multLockf, .other]
  | .oscMultCtrl => [.ondemand, .enable, .mode, .ccdis, .bplckc, .waitlock, .qldis, .usbcrm, .other]
  | .oscMultVal => [.coarse, .fine, .other]
  | .oscMultMul => [.mul, .cstep, .fstep, .other]
  | .busMask => [.gt, .other]
  | .busCpudiv => [.div, .other]
  | .busAdiv => [.div, .other]
  | .busBdiv => [.div, .other]
  | .busCdiv => [.div, .other]
  | .flashCtrl => [.rws, .other]

/-- The minimum width of a field in a register, the widths the catalog leaves open taken from the instance (R77). Fields of one
bit are the rest. OTHER has no width of its own. -/
def minWidth (c : Config) : Reg → RegField → Nat
  | .gtGendiv, .ident => 3
  | .gtGendiv, .div => 16
  | .gtGenctrl, .ident => 3
  | .gtGenctrl, .src => 3
  | .gtClkctrl, .ident => 6
  | .gtClkctrl, .gen => 3
  | .oscInt32k, .startup => c.startupInt32kW
  | .oscExt32k, .startup => c.startupExt32kW
  | .oscRc8m, .presc => c.prescW
  | .oscMultVal, .coarse => c.calCoarseW
  | .oscMultVal, .fine => c.calFineW
  | .oscMultMul, .mul => 16
  | .oscMultMul, .cstep => 5
  | .oscMultMul, .fstep => 9
  | .busCpudiv, .div => c.cpuDivW
  | .busAdiv, .div => c.aDivW
  | .busBdiv, .div => c.bDivW
  | .busCdiv, .div => c.cDivW
  | .flashCtrl, .rws => c.rwsW
  | _, _ => 1

/-- The width of a field in this instance: `REG_LAYOUT` may make it wider than the minimum (R12, R77, R260). -/
def fieldWidth (c : Config) (r : Reg) (f : RegField) : Nat :=
  minWidth c r f + (c.extraBits.lookup (r, f)).getD 0

/-- `MAXDIV` (R8, R149). -/
def maxDiv (g : GenId) : Nat :=
  if g = 1 then 65535 else if g = 2 then 31 else 255

/-- `W(g)`, the width of a generator bank's DIV (R251). -/
def divWidth (g : GenId) : Nat :=
  if g = 1 then 16 else if g = 2 then 5 else 8

/-- The registers of the generator tree (R18, R77). -/
def isGt : Reg → Bool
  | .gtCtrl | .gtStatus | .gtGendiv | .gtGenctrl | .gtClkctrl => true
  | .oscInt32k | .oscExt32k | .oscRc8m | .oscStatus | .oscMultCtrl | .oscMultVal | .oscMultMul => false
  | .busMask | .busCpudiv | .busAdiv | .busBdiv | .busCdiv | .flashCtrl => false

/-- The control fields of a generator bank fit the fields of GT.GENCTRL (R77, R250). -/
def ctlFits (c : Config) (b : GenCtl) : Bool :=
  decide (b.src < 2 ^ fieldWidth c .gtGenctrl .src) && decide (b.genen < 2 ^ fieldWidth c .gtGenctrl .genen)
  && decide (b.idc < 2 ^ fieldWidth c .gtGenctrl .idc) && decide (b.oe < 2 ^ fieldWidth c .gtGenctrl .oe)
  && decide (b.divsel < 2 ^ fieldWidth c .gtGenctrl .divsel) && decide (b.runstdby < 2 ^ fieldWidth c .gtGenctrl .runstdby)

/-- The fields of a channel bank fit the fields of GT.CLKCTRL (R77, R250). -/
def chanFits (c : Config) (b : ChanBank) : Bool :=
  decide (b.gen < 2 ^ fieldWidth c .gtClkctrl .gen) && decide (b.clken < 2 ^ fieldWidth c .gtClkctrl .clken)

/-- What an update puts into a bank fits that bank's fields; DIV is cut when it is applied (R260). -/
def updateFits (c : Config) : Update → Bool
  | .genctrl _ b => ctlFits c b
  | .chan _ g e => chanFits c { gen := g, clken := e }
  | .reset => true
  | .div _ _ => true
  | .selgen _ => true
  | .selch _ => true

/-- `SRC_CODE(kind)` (R150). -/
def srcCode (c : Config) (k : SourceKind) : Nat := c.srcCode.get k.number

/-- The parameters make an instance: NUM_CHANNELS is 1..64 and MULT_REF_CH a channel (R9, R10), BASE is aligned to 0x80 (R71),
every parameter the block writes fits its field (R75), the INT32K coarse step fits CSTEP (R181), each GEN_POR bank's divider fits
`W(g)` (R251), and the other fields of GEN_POR and CH_POR fit theirs (R77, R252). -/
def configWf (c : Config) : Bool :=
  decide (1 ≤ c.numChannels) && decide (c.numChannels ≤ 64) && decide (c.multRefCh < c.numChannels)
  && decide (c.base % 128 = 0)
  && decide (c.flashWs48m < 2 ^ fieldWidth c .flashCtrl .rws)
  && decide (c.startupInt32k < 2 ^ fieldWidth c .oscInt32k .startup)
  && decide (c.startupExt32k < 2 ^ fieldWidth c .oscExt32k .startup)
  && decide (c.prescDiv1 < 2 ^ fieldWidth c .oscRc8m .presc)
  && decide (c.div1 < 2 ^ fieldWidth c .busCpudiv .div) && decide (c.div1 < 2 ^ fieldWidth c .busAdiv .div)
  && decide (c.div1 < 2 ^ fieldWidth c .busBdiv .div) && decide (c.div1 < 2 ^ fieldWidth c .busCdiv .div)
  && (List.finRange 8).all (fun k => decide (c.srcCode.get k < 2 ^ fieldWidth c .gtGenctrl .src))
  && decide (c.calCoarseW - 2 ≤ fieldWidth c .oscMultMul .cstep)
  && (List.finRange 8).all (fun g => decide ((c.genPor.get g).div < 2 ^ divWidth g))
  && (List.finRange 8).all (fun g => ctlFits c (c.genPor.get g).ctl)
  && (List.finRange 64).all (fun k => chanFits c (c.chPor.get k))

end Sys2Proof.Machine
end

