-- ==== Sys2Proof/Machine/Operands.lean ====
section
/-! DEFINITION. The operand forms: the value expressions of a micro-operation, the field maps of full and modifying writes, the
environment's draws, and the frequency arithmetic of a claim (spec/20_memory.md R75, R78 to R81; spec/40_sequencer.md R142,
R149; spec/42_allocation.md R213, R215 to R220). -/

namespace Sys2Proof.Machine

/-- The value of a field in a map, 0 where it is not listed. -/
def fieldOf (m : FieldMap) (f : RegField) : Nat := (m.lookup f).getD 0

/-- The value of an expression when its micro-operation executes (R142, R176, R181). -/
def evalVal (b : CalBuf) : Val → Nat
  | .lit n => n
  | .calCoarse => b.coarse
  | .calFine => b.fine
  | .calCoarseQuarter => b.coarse / 4

/-- The values of a list of field expressions. -/
def evalFields (b : CalBuf) (fs : List (RegField × Val)) : FieldMap :=
  fs.map fun p => (p.1, evalVal b p.2)

/-- What a full write of R carries: "every other field of R, including its opaque remainder OTHER, is written as 0" (R75). -/
def fullWrite (r : Reg) (m : FieldMap) : FieldMap :=
  (regFields r).map fun f => (f, fieldOf m f)

/-- What the second half of a Modify carries: "MODBUF with the listed fields replaced and every other field, OTHER included, as
read" (R79, R142). -/
def modifyWrite (r : Reg) (m buf : FieldMap) : FieldMap :=
  (regFields r).map fun f => (f, (m.lookup f).getD (fieldOf buf f))

/-- A value as a field of R returns it, "within its width" (R78); OTHER has none. -/
def cutField (c : Config) (r : Reg) (f : RegField) (v : Nat) : Nat :=
  if f = .other then v else v % 2 ^ fieldWidth c r f

/-- What a read of R returns, each field within its width: the fields some rule gives a value, and a draw for every other field
(R78, R80, R256, R265). -/
def readValue (c : Config) (r : Reg) (known : FieldMap) (a : Answer) : FieldMap :=
  (regFields r).map fun f => (f, cutField c r f ((known.lookup f).getD (fieldOf a.fields f)))

/-- A free update, its bank fields cut to their widths (assumption 13). -/
def cutUpdate (c : Config) : Update → Update
  | .genctrl i b =>
    let cut := cutField c .gtGenctrl
    .genctrl i
      { src := cut .src b.src, genen := cut .genen b.genen, idc := cut .idc b.idc, oe := cut .oe b.oe,
        divsel := cut .divsel b.divsel, runstdby := cut .runstdby b.runstdby }
  | .chan k g e => .chan k (cutField c .gtClkctrl .gen g) (cutField c .gtClkctrl .clken e)
  | .reset => .reset
  | .div i v => .div i v
  | .selgen v => .selgen v
  | .selch v => .selch v

/-- The two integers of a `CalRead`, draws cut to their widths (R81). -/
def calDraw (c : Config) (a : Answer) : CalBuf :=
  { coarse := a.coarse % 2 ^ c.calCoarseW, fine := a.fine % 2 ^ c.calFineW }

/-- A poll's predicate holds of the value read (R79, R142). -/
def pollHolds (pred : List (RegField × Nat)) (m : FieldMap) : Bool :=
  pred.all fun p => fieldOf m p.1 = p.2

/-- `fsrc(s)` in Hz, none for the unimplemented sources RAWIN and XTAL (R213, R216). -/
def sourceFreq (ft : Vector Word 8) : SourceKind → Option Nat
  | .int32k => some 32768
  | .ext32k => some 32768
  | .rc8m => some 8000000
  | .mult48m => some 48000000
  | .pll96m => some 96000000
  | .gen1 => some (ft.get 1).toNat
  | .rawin => none
  | .xtal => none

/-- `1 <= d <= MAXDIV(g)`, the legal dividers (R149, R215). -/
def legalDivider (g : GenId) (d : Nat) : Bool := decide (1 ≤ d) && decide (d ≤ maxDiv g)

/-- The bits of a divider the gating block keeps: "the low W(i) bits" (R260). -/
def truncateDiv (g : GenId) (v : Nat) : Nat := v % 2 ^ divWidth g

end Sys2Proof.Machine
end

