-- ==== Sys2Proof/Machine/Flags.lean ====
section
/-! DEFINITION. The coded views of the state: the phase, status, kind and cause codes, the response word, CSR, PARAM and the
output `halt_req` (spec/10_state.md R24, R37, R40, R43, R46; spec/30_encoding.md R106 to R109; spec/40_sequencer.md R145). -/

namespace Sys2Proof.Machine

/-- PHASE's encoding (R24). -/
def phaseCode : Phase → BitVec 2
  | .powerOn => 0
  | .configured => 1
  | .halted => 2

/-- STATUS (R107). -/
def statusCode : Status → BitVec 4
  | .ok => 0
  | .noResult => 1
  | .illegal => 2
  | .fatal => 3

/-- KIND (R108). -/
def kindCode : Kind → BitVec 4
  | .empty => 0
  | .handle => 1
  | .token => 2

/-- CAUSE (R109). -/
def causeCode : Cause → BitVec 8
  | .success => 0x00
  | .genAlreadyConfigured => 0x01
  | .genNotConfigured => 0x02
  | .channelAlreadyUsed => 0x03
  | .reservedOpcode => 0x10
  | .reservedField => 0x11
  | .wrongPhase => 0x12
  | .channelOutOfRange => 0x13
  | .invalidHandle => 0x14
  | .dividerOutOfRange => 0x20
  | .unimplementedSource => 0x21
  | .zeroFrequency => 0x22

/-- RSP_LO of a response: `{cause[7:0], 0b00, ch[5:0], 0b00000, gen[2:0], kind[3:0], status[3:0]}` (R106, R145). -/
def respLo (p : Resp) : Word :=
  causeCode p.cause ++ (0#2 ++ (p.ch ++ (0#5 ++ (genBits p.gen ++ (kindCode p.kind ++ statusCode p.status)))))

/-- RSP_HI of a response: the frequency (R106, R145). -/
def respHi (p : Resp) : Word := p.freq

/-- CSR as a host reads it: BUSY bit 0, RSP_VALID bit 1, PHASE bits 3:2, DROP bit 8, every other bit 0 (R37). -/
def csrWord (s : State) : Word :=
  0#23 ++ (BitVec.ofBool s.drop ++ (0#4 ++ (phaseCode s.phase ++ (BitVec.ofBool s.rspValid ++ BitVec.ofBool s.busy))))

/-- DROP after a host write of `v` to CSR: bit 8 = 1 clears it, and no other bit is writable (R37). -/
def dropAfterCsrWrite (v : Word) (drop : Bool) : Bool := drop && !v.getLsbD 8

/-- PARAM: NUM_CHANNELS in bits 6:0, MULT_REF_CH in bits 13:8, every other bit 0 (R40). -/
def paramWord (c : Config) : Word :=
  0#18 ++ (BitVec.ofNat 6 c.multRefCh ++ (0#1 ++ BitVec.ofNat 7 c.numChannels))

/-- The output `halt_req`, "1 exactly when PHASE = HALTED" (R43). -/
def haltReq (s : State) : Bool := decide (s.phase = .halted)

/-- The cause an undecodable word is answered with (R111, R112). -/
def rejectCause : Reject → Cause
  | .reservedOpcode => .reservedOpcode
  | .reservedField => .reservedField

end Sys2Proof.Machine
end

