-- ==== Sys2Proof/Machine/Gating.lean ====
section
/-! DEFINITION. The optional module: the generator-tree registers, the bus-clock gate and the synchronizer
(spec/43_gating_block.md R253 to R265). -/

namespace Sys2Proof.Machine

/-- The update a full write records, none for a write of no effect (R255). -/
def writeUpdate (r : Reg) (m : FieldMap) : Option Update :=
  match r with
  | .gtCtrl => if fieldOf m .swrst = 0 then none else some .reset
  | .gtGendiv => some (.div (fieldOf m .ident) (fieldOf m .div))
  | .gtGenctrl =>
    some (.genctrl (fieldOf m .ident)
      { src := fieldOf m .src, genen := fieldOf m .genen, idc := fieldOf m .idc, oe := fieldOf m .oe,
        divsel := fieldOf m .divsel, runstdby := fieldOf m .runstdby })
  | .gtClkctrl => some (.chan (fieldOf m .ident) (fieldOf m .gen) (fieldOf m .clken))
  | _ => none

/-- A GT write whose update is `u` meets the synchronizer: GT_WRITE_DURING_SYNC while one is in flight (R257); no effect while the
bus clock is gated (R254); otherwise the update is recorded and SYNCBUSY, and SWRST for a reset, rise (R253, R255). -/
def recordUpdate (u : Option Update) (g : GtState) : Except Fault GtState :=
  if g.pending.isSome then .error .gtWriteDuringSync
  else if g.gten then
    match u with
    | none => .ok g
    | some u => .ok { g with pending := some u, syncbusy := true, swrst := decide (u = .reset) }
  else .ok g

/-- A full write as the gating block sees it: a GT register goes through the synchronizer, BUS.MASK sets the gate at once (R265),
any other register is not the module's. -/
def gtWrite (r : Reg) (m : FieldMap) (g : GtState) : Except Fault GtState :=
  if isGt r then recordUpdate (writeUpdate r m) g
  else if r = .busMask then .ok { g with gten := decide (fieldOf m .gt ≠ 0) }
  else .ok g

/-- The update an 8-bit write to a GT register records: the select writes of GT.GENCTRL and GT.CLKCTRL, none for GT.STATUS (R255),
and the free update `free` for GT.CTRL and GT.GENDIV, to which R255 gives no row (assumption 13). -/
def writeUpdate8 (r : Reg) (v : Nat) (free : Option Update) : Option Update :=
  match r with
  | .gtGenctrl => some (.selgen v)
  | .gtClkctrl => some (.selch v)
  | .gtCtrl | .gtGendiv => free
  | _ => none

/-- An 8-bit write as the gating block sees it: a GT register goes through the synchronizer as with a full write (R253, R254,
R257); BUS.MASK leaves the gate at the free value `gate`, since R265 gives the full write alone (assumption 13); any other
register is not the module's. -/
def gtWrite8 (r : Reg) (v : Nat) (free : Option Update) (gate : Bool) (g : GtState) : Except Fault GtState :=
  if isGt r then recordUpdate (writeUpdate8 r v free) g
  else if r = .busMask then .ok { g with gten := gate }
  else .ok g

/-- The fields of a generator bank as GT.GENCTRL shows them (R256). -/
def genctrlFields (g : GtState) : FieldMap :=
  let b := (g.gens.get g.selGen).ctl
  [(.ident, g.selGen.val), (.src, b.src), (.genen, b.genen), (.idc, b.idc), (.oe, b.oe), (.divsel, b.divsel),
   (.runstdby, b.runstdby)]

/-- The fields of a channel bank as GT.CLKCTRL shows them (R256). -/
def clkctrlFields (g : GtState) : FieldMap :=
  let b := (g.chans[g.selCh]?).getD default
  [(.ident, g.selCh), (.gen, b.gen), (.clken, b.clken)]

/-- The fields of a register that the module gives a value to a read; every other field is a draw (R256, R265). -/
def gtKnown (g : GtState) (r : Reg) : FieldMap :=
  match r with
  | .busMask => [(.gt, g.gten.toNat)]
  | .gtStatus => if g.gten then [(.syncbusy, g.syncbusy.toNat)] else []
  | .gtCtrl => if g.gten then [(.swrst, g.swrst.toNat)] else []
  | .gtGenctrl => if g.gten && !g.syncbusy then genctrlFields g else []
  | .gtClkctrl => if g.gten && !g.syncbusy then clkctrlFields g else []
  | _ => []

/-- Change one generator bank. -/
def updateGen (g : GtState) (i : GenId) (f : GenBank → GenBank) : GtState :=
  { g with gens := g.gens.set i (f (g.gens.get i)) }

/-- The generator an ID value names, none above 7 (R260, R261). -/
def genOfNat (i : Nat) : Option GenId := if h : i < 8 then some ⟨i, h⟩ else none

/-- Apply an update to the banks and the selections (R259 to R264). -/
def applyUpdate (c : Config) (u : Update) (g : GtState) : GtState :=
  match u with
  | .reset => { g with gens := c.genPor, chans := c.chPor, selGen := 0, selCh := 0 }
  | .div i v =>
    match genOfNat i with
    | some k => updateGen g k fun b => { b with div := truncateDiv k v }
    | none => g
  | .genctrl i b =>
    match genOfNat i with
    | some k => { updateGen g k fun old => { old with ctl := b } with selGen := k }
    | none => g
  | .selgen v =>
    match genOfNat (v % 16) with
    | some k => { g with selGen := k }
    | none => g
  | .chan ch k e =>
    if ch < c.numChannels then
      { g with chans := g.chans.setIfInBounds ch { gen := k, clken := e }, selCh := ch }
    else g
  | .selch v => if v % 64 < c.numChannels then { g with selCh := v % 64 } else g

/-- GTSYNC's step: it "applies PENDING by rules R259 to R264, then sets PENDING = none, SYNCBUSY = 0 and SWRST = 0", and exists
only when PENDING is not none (R258). -/
def gtSync (c : Config) (g : GtState) : GtState :=
  match g.pending with
  | none => g
  | some u => { applyUpdate c u g with pending := none, syncbusy := false, swrst := false }

end Sys2Proof.Machine
end

