-- ==== Sys2Proof/Machine/Ops.lean ====
section
/-! DEFINITION. The named operations over the state: the tracker, the register and calibration ports, issue, the response that ends
a command (a fatal entry among them), block reset and chip power-on (spec/10_state.md R21, R23, R45, R48; spec/20_memory.md R75 to
R81; spec/40_sequencer.md R142, R145; spec/60_exceptions.md R292 to R297, R304, R305; spec/70_reset_and_hazards.md R330, R332). -/

namespace Sys2Proof.Machine

/-- `FT[g]`. -/
def freqOf (s : State) (g : GenId) : Word := s.ft.get g

/-- `FT[g] <- v` (R142). -/
def setFt (g : GenId) (v : Word) (s : State) : State := { s with ft := s.ft.set g v }

/-- `USAGE[c]` (R23). -/
def channelUsed (s : State) (c : Nat) : Bool := s.usage.getLsbD c

/-- `USAGE[c] <- 1` (R142). -/
def setUsage (c : Nat) (s : State) : State := { s with usage := s.usage ||| (1#64 <<< c) }

/-- MPC after a micro-operation that does not end the command: "MPC + 1" (R142). -/
def advance (s : State) : State := { s with mpc := s.mpc + 1 }

/-- One transaction more in the history. -/
def record (t : Txn) (s : State) : State := { s with trace := t :: s.trace }

/-- What `PortRead(R)` returns in this state when ENV offers `a` (R78, R80, R256). -/
def readReg (r : Reg) (a : Answer) (s : State) : FieldMap :=
  readValue s.cfg r (if s.cfg.gating then gtKnown s.gt r else []) a

/-- `PortWrite(R, m)`: one transaction, and its effect on the gating block where the module is used (R75, R80, R253). -/
def portWrite (r : Reg) (m : FieldMap) (s : State) : Except Fault State :=
  if s.cfg.gating then
    match gtWrite r m s.gt with
    | .ok g => .ok (record (.write r m) { s with gt := g })
    | .error e => .error e
  else .ok (record (.write r m) s)

/-- `PortWrite8(R, v)` when ENV offers `a` (R76, R255). -/
def portWrite8 (r : Reg) (v : Nat) (a : Answer) (s : State) : Except Fault State :=
  if s.cfg.gating then
    match gtWrite8 r v (a.byteUpdate.map (cutUpdate s.cfg)) a.byteGate s.gt with
    | .ok g => .ok (record (.write8 r v) { s with gt := g })
    | .error e => .error e
  else .ok (record (.write8 r v) s)

/-- The issue of a command whose micro-program is `p`, one atomic step (R45): the window's word is latched, BUSY rises, RSP_VALID
falls, the micro-program starts. RSP_LO and RSP_HI keep the previous response. -/
def issue (p : List MicroOp) (s : State) : State :=
  { s with cur := s.cmdHi ++ s.cmdLo, busy := true, rspValid := false, prog := p, mpc := 0 }

/-- `RESP(…)`, the one step that ends a command, whatever its class (R145). It is this block's whole exception entry: "No state is
saved, the block has no mode to change and no stack, and there is no vector" (R304); a FATAL response also enters HALTED (R296). -/
def respond (p : Resp) (s : State) : State :=
  { s with rspLo := respLo p, rspHi := respHi p, rspValid := true, busy := false, phase := p.phase.getD s.phase }

/-- The micro-program of a command that is not admitted (R110, R145, R293). -/
def illegalProg (c : Cause) : List MicroOp := [.resp { status := .illegal, cause := c }]

/-- The micro-program of a command that answers the source's empty result (R145, R292). -/
def noneProg (c : Cause) : List MicroOp := [.resp { status := .noResult, cause := c }]

/-- Fatal entry: `RESP(FATAL, cause, phase=HALTED)` (R296). -/
def fatalProg (c : Cause) : List MicroOp := [.resp { status := .fatal, cause := c, phase := some .halted }]

/-- The phase test of decode: outside the phase `p` the command is ILLEGAL with WRONG_PHASE (R110, R113). -/
def inPhase (p : Phase) (s : State) (body : List MicroOp) : List MicroOp :=
  if s.phase = p then body else illegalProg .wrongPhase

/-- Block reset: every CTC state element takes its reset value, a running command is aborted, the external registers keep theirs
(R48, R330, R332, R333). It is the one way out of HALTED (R297, R305). -/
def blockReset (s : State) : State :=
  { s with
    ft := Vector.replicate 8 0, usage := 0, phase := .powerOn, busy := false, cur := 0, prog := [], mpc := 0, modbuf := [],
    calbuf := { coarse := 0, fine := 0 }, cmdLo := 0, cmdHi := 0, rspLo := 0, rspHi := 0, rspValid := false, drop := false }

/-- Chip power-on: it asserts `rst` (R330) and the gating block takes its power-on values (R252, R332). -/
def powerOn (s : State) : State := { blockReset s with gt := .powerOn s.cfg }

end Sys2Proof.Machine
end

