-- ==== Sys2Proof/Machine/Sequencer.lean ====
section
/-! DEFINITION. The five sequencer primitives as micro-operation lists (spec/40_sequencer.md R144, R146, R147, R150 to R152). -/

namespace Sys2Proof.Machine

/-- `SeqSync`, waitForSync (R147). -/
def seqSync : List MicroOp := [.poll .gtStatus [(.syncbusy, 0)] 0]

/-- `SeqReset`, the tree reset (R146). On SYNCBUSY = 1 the wait reads GT.CTRL again. -/
def seqReset : List MicroOp :=
  [ .wr .gtCtrl [(.swrst, .lit 1)],
    .poll .gtCtrl [(.swrst, 0)] 0,
    .poll .gtStatus [(.syncbusy, 0)] 1 ]

/-- `SeqGen(g, d, s, idc)`, the sequencer's configureGenerator (R150). -/
def seqGen (c : Config) (g : GenId) (d : Nat) (k : SourceKind) (idc : Bool) : List MicroOp :=
  [ .wr .gtGendiv [(.ident, .lit g), (.div, .lit d)] ] ++ seqSync ++
  [ .wr .gtGenctrl [(.ident, .lit g), (.src, .lit (srcCode c k)), (.genen, .lit 1), (.idc, .lit idc.toNat), (.oe, .lit 1),
      (.divsel, .lit 0)] ] ++ seqSync

/-- `SeqChan(c, g)`, the sequencer's enableChannel (R151). -/
def seqChan (ch : Nat) (g : GenId) : List MicroOp :=
  [ .wr .gtClkctrl [(.ident, .lit ch), (.gen, .lit g), (.clken, .lit 1)] ] ++ seqSync

/-- `SeqStby(g, en)`, configureStandby: (a) select write, (b) wait, (c) read and modify, (d) wait, in five transactions that are
never merged (R152, R153). -/
def seqStby (g : GenId) (en : Bool) : List MicroOp :=
  [ .wr8 .gtGenctrl g ] ++ seqSync ++
  [ .rd .gtGenctrl, .wrm .gtGenctrl [(.runstdby, .lit en.toNat)] ] ++ seqSync

/-- `Modify(R, {F=v})` as the pair `RD(R); WRM(R, {F=v})` (R79, R144). -/
def seqModify (r : Reg) (f : RegField) (v : Nat) : List MicroOp :=
  [ .rd r, .wrm r [(f, .lit v)] ]

end Sys2Proof.Machine
end

