-- ==== Sys2Proof/Machine/Allocation.lean ====
section
/-! DEFINITION. The allocation commands LOOKUP, CLAIM, ENABLE and STANDBY (spec/42_allocation.md R210 to R228). Every check is made
at issue (spec/40_sequencer.md R141). -/

namespace Sys2Proof.Machine

/-- The handle response `OK HANDLE (g, f)` (R108, R210). -/
def handleResp (g : GenId) (f : Word) : Resp := { kind := .handle, gen := g, freq := f }

/-- The token response `OK TOKEN (c, f)`; its GEN field is 0 (R108, R224). -/
def tokenResp (ch : Nat) (f : Word) : Resp := { kind := .token, ch := BitVec.ofNat 6 ch, freq := f }

/-- `ProgLookup(g)` (R210). -/
def progLookup (g : GenId) (s : State) : List MicroOp :=
  if freqOf s g = 0 then noneProg .genNotConfigured else [.resp (handleResp g (freqOf s g))]

/-- A claim that passed every check: the generator's register writes, then FT, then the handle (R218, R219). -/
def claimOk (g : GenId) (idc : Bool) (k : SourceKind) (d : Nat) (f : Word) (s : State) : List MicroOp :=
  seqGen s.cfg g d k idc ++ [.setft g f, .resp (handleResp g f)]

/-- `ProgClaim(g, d, s, idc)`, the checks in the order of R212 and R298: already configured (R214), divider (R215), source (R216),
zero frequency (R217). -/
def progClaim (g : GenId) (idc : Bool) (k : SourceKind) (d : Nat) (s : State) : List MicroOp :=
  if freqOf s g ≠ 0 then noneProg .genAlreadyConfigured
  else if !legalDivider g d then fatalProg .dividerOutOfRange
  else
    match sourceFreq s.ft k with
    | none => fatalProg .unimplementedSource
    | some fsrc =>
      if fsrc / d = 0 then fatalProg .zeroFrequency else claimOk g idc k d (BitVec.ofNat 32 (fsrc / d)) s

/-- `ProgEnable(c, g)`, the checks in the order of R224 and R298; the USAGE bit is set before the channel is programmed. -/
def progEnable (ch : Nat) (g : GenId) (s : State) : List MicroOp :=
  if s.cfg.numChannels ≤ ch then illegalProg .channelOutOfRange
  else if freqOf s g = 0 then illegalProg .invalidHandle
  else if channelUsed s ch then noneProg .channelAlreadyUsed
  else [.setuse ch] ++ seqChan ch g ++ [.resp (tokenResp ch (freqOf s g))]

/-- `ProgStandby(g, en)`, "unconditional" (R227). -/
def progStandby (g : GenId) (en : Bool) : List MicroOp := seqStby g en ++ [.resp {}]

/-- LOOKUP: admitted in CONFIGURED only (R113), it issues `ProgLookup(g)` (R45, R210). -/
def execLookup (g : GenId) (s : State) : Host.Outcome State Fault Refusal :=
  .next (issue (inPhase .configured s (progLookup g s)) s)

/-- CLAIM: admitted in CONFIGURED only (R113), it issues `ProgClaim(g, d, s, idc)` (R45, R219). -/
def execClaim (g : GenId) (idc : Bool) (k : SourceKind) (d : Nat) (s : State) : Host.Outcome State Fault Refusal :=
  .next (issue (inPhase .configured s (progClaim g idc k d s)) s)

/-- ENABLE: admitted in CONFIGURED only (R113), it issues `ProgEnable(c, g)` (R45, R224). -/
def execEnable (ch : Nat) (g : GenId) (s : State) : Host.Outcome State Fault Refusal :=
  .next (issue (inPhase .configured s (progEnable ch g s)) s)

/-- STANDBY: admitted in CONFIGURED only (R113), it issues `ProgStandby(g, en)` (R45, R227). -/
def execStandby (g : GenId) (en : Bool) (s : State) : Host.Outcome State Fault Refusal :=
  .next (issue (inPhase .configured s (progStandby g en)) s)

end Sys2Proof.Machine
end

