-- ==== Sys2Proof/Machine/Bringup.lean ====
section
/-! DEFINITION. The bring-up commands BRINGUP48 and BRINGUP8 (spec/41_bringup.md R170 to R194). -/

namespace Sys2Proof.Machine

/-- Step 1, flash wait states (R171). -/
def flashStep (c : Config) : List MicroOp := seqModify .flashCtrl .rws c.flashWs48m

/-- Step 2, bus-clock ungate (R172). -/
def ungateStep : List MicroOp := seqModify .busMask .gt 1

/-- Step 3, oscillator start, for the oscillator references only (R170, R173). -/
def oscStep (c : Config) : Variant → List MicroOp
  | .int32k =>
    [ .wr .oscInt32k [(.enable, .lit 1), (.startup, .lit c.startupInt32k), (.other, .lit c.oscExtraInt32k)],
      .poll .oscStatus [(.int32kRdy, 1)] 0 ]
  | .ext32k =>
    [ .wr .oscExt32k [(.enable, .lit 1), (.startup, .lit c.startupExt32k), (.other, .lit c.oscExtraExt32k)],
      .poll .oscStatus [(.ext32kRdy, 1)] 0 ]
  | .usb => []
  | .openLoop => []

/-- Step 5, multiplier reference feed, for the oscillator references only (R175). -/
def feedStep (c : Config) : Variant → List MicroOp
  | .int32k => seqGen c 1 1 .int32k false ++ seqChan c.multRefCh 1
  | .ext32k => seqGen c 1 1 .ext32k false ++ seqChan c.multRefCh 1
  | .usb => []
  | .openLoop => []

/-- "Wait-ready", the poll of the multiplier's own flag (R178). -/
def waitReady : List MicroOp := [.poll .oscStatus [(.multRdy, 1)] 0]

/-- The MULT_MUL write by variant (R177, R180 to R182). -/
def multMulWrite (c : Config) : Variant → List MicroOp
  | .int32k => [.wr .oscMultMul [(.mul, .lit 1464), (.cstep, .calCoarseQuarter), (.fstep, .lit 10)]]
  | .ext32k => [.wr .oscMultMul [(.mul, .lit 1465), (.cstep, .lit 31), (.fstep, .lit 511)]]
  | .usb => [.wr .oscMultMul [(.mul, .lit 48000), (.cstep, .lit 1), (.fstep, .lit 1)]]
  | .openLoop =>
    if c.openLoopStageMul then [.wr .oscMultMul [(.mul, .lit 48000), (.cstep, .lit 1), (.fstep, .lit 1)]] else []

/-- `modeflags(VAR)` (R179). -/
def modeFlags : Variant → List (RegField × Val)
  | .int32k => [(.mode, .lit 1), (.ccdis, .lit 1), (.bplckc, .lit 1)]
  | .ext32k => [(.mode, .lit 1), (.waitlock, .lit 1), (.qldis, .lit 1)]
  | .usb => [(.mode, .lit 1), (.ccdis, .lit 1), (.usbcrm, .lit 1), (.bplckc, .lit 1)]
  | .openLoop => []

/-- The lock poll, EXT32K only, both flags in one read (R176). -/
def lockPoll : Variant → List MicroOp
  | .ext32k => [.poll .oscStatus [(.multLockc, 1), (.multLockf, 1)] 0]
  | .int32k => []
  | .usb => []
  | .openLoop => []

/-- Step 6, the multiplier envelope `MultProg(VAR)` (R176). -/
def multStep (c : Config) (v : Variant) : List MicroOp :=
  [ .cal, .wr .oscMultCtrl [(.ondemand, .lit 0)] ] ++ waitReady ++
  [ .wr .oscMultVal [(.coarse, .calCoarse), (.fine, .calFine)] ] ++ multMulWrite c v ++
  [ .wr .oscMultCtrl (modeFlags v) ] ++ waitReady ++ seqModify .oscMultCtrl .enable 1 ++ lockPoll v ++ waitReady

/-- Step 7, the core-clock switch (R183). -/
def switchStep (c : Config) : List MicroOp := seqGen c 0 1 .mult48m true

/-- Step 8, auxiliary prescalers, `Presc` (R184). -/
def prescStep (c : Config) : List MicroOp :=
  seqModify .oscRc8m .presc c.prescDiv1 ++
  [ .wr .busCpudiv [(.div, .lit c.div1)], .wr .busAdiv [(.div, .lit c.div1)], .wr .busBdiv [(.div, .lit c.div1)],
    .wr .busCdiv [(.div, .lit c.div1)] ]

/-- FT[1]'s record in step 9: 32768 "for oscillator references", none for USB and OPEN (R186). -/
def refRecord : Variant → List MicroOp
  | .int32k => [.setft 1 32768]
  | .ext32k => [.setft 1 32768]
  | .usb => []
  | .openLoop => []

/-- Step 9, record (R186). -/
def recordStep (c : Config) (v : Variant) : List MicroOp :=
  [ .setft 0 48000000 ] ++ refRecord v ++ [ .setuse c.multRefCh ]

/-- The response of a completed bring-up: OK EMPTY, and PHASE becomes CONFIGURED (R25, R185, R191). -/
def bringupDone : List MicroOp := [.resp { phase := some .configured }]

/-- `Prog48(VAR)` (R185). -/
def prog48 (c : Config) (v : Variant) : List MicroOp :=
  flashStep c ++ ungateStep ++ oscStep c v ++ seqReset ++ feedStep c v ++ multStep c v ++ switchStep c ++ prescStep c ++
  recordStep c v ++ bringupDone

/-- `Prog8` (R191, R192). -/
def prog8 (c : Config) : List MicroOp :=
  ungateStep ++ seqReset ++ seqGen c 0 1 .rc8m false ++ prescStep c ++ [ .setft 0 8000000 ] ++ bringupDone

/-- BRINGUP48: admitted in POWER_ON only (R113), it issues `Prog48(VAR)` (R45, R185). -/
def execBringup48 (v : Variant) (s : State) : Host.Outcome State Fault Refusal :=
  .next (issue (inPhase .powerOn s (prog48 s.cfg v)) s)

/-- BRINGUP8: admitted in POWER_ON only (R113), it issues `Prog8` (R45, R191). -/
def execBringup8 (s : State) : Host.Outcome State Fault Refusal :=
  .next (issue (inPhase .powerOn s (prog8 s.cfg)) s)

end Sys2Proof.Machine
end

