-- ==== Sys2Proof/Machine/Dispatch.lean ====
section
/-! DEFINITION. The meaning of a command: its issue step (spec/10_state.md R45; spec/40_sequencer.md R141), one arm per command. The
micro-program it starts runs in the CTC steps that follow (Machine/Micro.lean). -/

namespace Sys2Proof.Machine

def exec (i : Instr) (s : State) : Host.Outcome State Fault Refusal :=
  match i with
  | .bringup48 var => Sys2Proof.Machine.execBringup48 var s
  | .bringup8 => Sys2Proof.Machine.execBringup8 s
  | .lookup g => Sys2Proof.Machine.execLookup g s
  | .claim g idc src d => Sys2Proof.Machine.execClaim g idc src d s
  | .enable ch g => Sys2Proof.Machine.execEnable ch g s
  | .standby g en => Sys2Proof.Machine.execStandby g en s

end Sys2Proof.Machine
end

