-- ==== Sys2Proof/Machine/HostWindow.lean ====
section
/-! DEFINITION. The host window: its register map, host loads and stores, the issue of a command by a CMD_LO store, dropped writes and
bus errors (spec/10_state.md R33 to R42, R45; spec/20_memory.md R71 to R73, R82; spec/60_exceptions.md R299, R301). -/

namespace Sys2Proof.Machine

/-- The window's registers (R33 to R40). -/
inductive WinReg
  | cmdLo | cmdHi | rspLo | rspHi | csr
  | freq (g : GenId)
  | usageLo | usageHi | param
  deriving DecidableEq, Repr

/-- The register at a 4-byte aligned offset of the window, none at a reserved one (R41, R71). -/
def windowReg (off : Nat) : Option WinReg :=
  match off with
  | 0x00 => some .cmdLo
  | 0x04 => some .cmdHi
  | 0x08 => some .rspLo
  | 0x0C => some .rspHi
  | 0x10 => some .csr
  | 0x20 => some (.freq 0)
  | 0x24 => some (.freq 1)
  | 0x28 => some (.freq 2)
  | 0x2C => some (.freq 3)
  | 0x30 => some (.freq 4)
  | 0x34 => some (.freq 5)
  | 0x38 => some (.freq 6)
  | 0x3C => some (.freq 7)
  | 0x40 => some .usageLo
  | 0x44 => some .usageHi
  | 0x48 => some .param
  | _ => none

/-- What a load of a window register returns (R33 to R40, R42). -/
def windowValue (r : WinReg) (s : State) : Word :=
  match r with
  | .cmdLo => s.cmdLo
  | .cmdHi => s.cmdHi
  | .rspLo => s.rspLo
  | .rspHi => s.rspHi
  | .csr => csrWord s
  | .freq g => freqOf s g
  | .usageLo => s.usage.extractLsb' 0 32
  | .usageHi => s.usage.extractLsb' 32 32
  | .param => paramWord s.cfg

/-- The issue a CMD_LO store triggers, for the word the window now holds: an admitted encoding runs its command's meaning, any other
word is ILLEGAL (R45, R110 to R112, R141). -/
def issueWord (s : State) : Host.Outcome State Fault Refusal :=
  match decode (s.cmdHi ++ s.cmdLo) with
  | .ok i => exec i s
  | .error e => .next (issue (illegalProg (rejectCause e)) s)

/-- A store to CMD_LO: dropped, with DROP set, while BUSY = 1 or PHASE = HALTED; otherwise CMD_LO takes the value and the command is
issued in the same step (R33, R72, R297). -/
def storeCmdLo (v : Word) (s : State) : Host.Outcome State Fault Refusal :=
  if s.busy || haltReq s then .next { s with drop := true }
  else issueWord { s with cmdLo := v }

/-- A store to a window register (R33, R34, R37); the read-only ones answer with a bus error (R41). -/
def windowStore (r : WinReg) (v : Word) (s : State) : Host.Outcome State Fault Refusal :=
  match r with
  | .cmdLo => storeCmdLo v { s with hostReply := .stored }
  | .cmdHi => .next { s with cmdHi := v, hostReply := .stored }
  | .csr => .next { s with drop := dropAfterCsrWrite v s.drop, hostReply := .stored }
  | .rspLo | .rspHi | .freq _ | .usageLo | .usageHi | .param => .fault (.hostBusError .readOnly)

/-- A host access at an offset inside the window, the bus-error tests first (R72, R73, R299, R301). A load changes no state of the
block (R72). -/
def windowAccess (a : HostAccess) (off : Nat) (s : State) : Host.Outcome State Fault Refusal :=
  if a.width ≠ 32 then .fault (.hostBusError .width)
  else if off % 4 ≠ 0 then .fault (.hostBusError .alignment)
  else
    match windowReg off with
    | none => .fault (.hostBusError .reservedOffset)
    | some r => if a.store then windowStore r a.data s else .next { s with hostReply := .loaded (windowValue r s) }

/-- A host access anywhere in the platform's map: the block answers in its window of 0x80 bytes at BASE (R71). The access's first
byte decides: one that starts below BASE and reaches into the window is the platform's (assumption 8, DESIGN CHOICE). -/
def hostStep (a : HostAccess) (s : State) : Host.Outcome State Fault Refusal :=
  if s.cfg.base ≤ a.addr ∧ a.addr < s.cfg.base + 0x80 then windowAccess a (a.addr - s.cfg.base) s
  else .refused .outsideWindow

/-- A 32-bit host store of `v` at a window offset. -/
def hostStoreAt (c : Config) (off : Nat) (v : Word) : HostAccess :=
  { store := true, width := 32, addr := c.base + off, data := v }

/-- A 32-bit host load at a window offset. -/
def hostLoadAt (c : Config) (off : Nat) : HostAccess :=
  { store := false, width := 32, addr := c.base + off, data := 0 }

end Sys2Proof.Machine
end

