-- ==== Sys2Proof/Machine/Micro.lean ====
section
/-! DEFINITION. The micro-operation machine: one CTC step (spec/40_sequencer.md R140, R142, R143, R145). -/

namespace Sys2Proof.Machine

/-- The state after a write micro-operation, or the fault its transaction raised. -/
def afterWrite : Except Fault State → Host.Outcome State Fault Refusal
  | .ok s => .next (advance s)
  | .error e => .fault e

/-- A poll: one read; past it when the predicate holds, else back by `back` (R142, R143). -/
def execPoll (r : Reg) (pred : List (RegField × Nat)) (back : Nat) (a : Answer) (s : State) : State :=
  let x := readReg r a s
  let s' := record (.read r x) s
  if pollHolds pred x then advance s' else { s' with mpc := s'.mpc - back }

/-- `RD(R)`: MODBUF takes what `PortRead(R)` returns (R142). -/
def execRead (r : Reg) (a : Answer) (s : State) : State :=
  let x := readReg r a s
  advance { record (.read r x) s with modbuf := x }

/-- `CAL`: CALBUF takes what `CalRead()` returns (R81, R142). -/
def execCal (a : Answer) (s : State) : State :=
  let x := calDraw s.cfg a
  advance { record (.cal x) s with calbuf := x }

/-- One micro-operation, `a` being what ENV offers to the transaction it makes (R142, R145). -/
def execMicro (op : MicroOp) (a : Answer) (s : State) : Host.Outcome State Fault Refusal :=
  match op with
  | .wr r fs => afterWrite (portWrite r (fullWrite r (evalFields s.calbuf fs)) s)
  | .wr8 r v => afterWrite (portWrite8 r v a s)
  | .rd r => .next (execRead r a s)
  | .wrm r fs => afterWrite (portWrite r (modifyWrite r (evalFields s.calbuf fs) s.modbuf) s)
  | .poll r pred back => .next (execPoll r pred back a s)
  | .cal => .next (execCal a s)
  | .setft g v => .next (advance (setFt g v s))
  | .setuse c => .next (advance (setUsage c s))
  | .resp p => .next (respond p s)

/-- A CTC step: "When `BUSY = 1`, a CTC step executes the micro-operation `PROG[MPC]` …, and nothing else. When `BUSY = 0`, the CTC
has no step" (R140), so a turn it is given then changes nothing. -/
def ctcStep (a : Answer) (s : State) : Host.Outcome State Fault Refusal :=
  if s.busy then
    match s.prog[s.mpc]? with
    | some op => execMicro op a s
    | none => .fault .noMicroOp
  else .next s

end Sys2Proof.Machine
end

