-- ==== Sys2Proof/Machine/Turns.lean ====
section
/-! DEFINITION. Which agent steps next and what its step does (spec/10_state.md R20; spec/40_sequencer.md R140; spec/43_gating_block.md
R258; spec/60_exceptions.md R300; spec/70_reset_and_hazards.md R330). -/

namespace Sys2Proof.Machine

/-- The turn taken when the agenda scripts none (assumption 4): GTSYNC while an update is in flight, else the CTC with a free
answer of ENV. -/
def freeTurn (s : State) : Turn :=
  if s.gt.pending.isSome then .gtsync else .ctc (Config.freeAnswer s.drawIx)

/-- The next turn: the agenda's first, or a free one. -/
def nextTurn (s : State) : Turn :=
  match s.agenda with
  | t :: _ => t
  | [] => freeTurn s

/-- The state once its next turn is taken from it. -/
def takeTurn (s : State) : State :=
  match s.agenda with
  | _ :: rest => { s with agenda := rest }
  | [] => { s with drawIx := s.drawIx + 1 }

/-- One agent's step: "each step is one agent's" (R300). -/
def runTurn (t : Turn) (s : State) : Host.Outcome State Fault Refusal :=
  match t with
  | .host a => hostStep a s
  | .ctc a => ctcStep a s
  | .gtsync => .next { s with gt := gtSync s.cfg s.gt }
  | .blockReset => .next (blockReset s)
  | .powerOn => .next (powerOn s)

/-- The state in which the very next step issues the command word `w`: the CTC free, the word's high half in CMD_HI, and the store
of its low half to CMD_LO as the next turn (assumption 6). -/
def placeCommand (w : CmdWord) (s : State) : State :=
  { s with
    busy := false, cmdHi := w.extractLsb' 32 32,
    agenda := .host (hostStoreAt s.cfg 0x00 (w.extractLsb' 0 32)) :: s.agenda }

end Sys2Proof.Machine
end

