-- ==== Sys2Proof/Machine/Step.lean ====
section
/-! DEFINITION. One step of the machine: one agent's step (spec/60_exceptions.md R300). -/

namespace Sys2Proof.Machine

/-- One step: the next turn is taken and run. -/
def step (s : State) : Host.Outcome State Fault Refusal := runTurn (nextTurn s) (takeTurn s)

/-- The state whose next step issues the command word that the opcode table's bits spell (assumption 6). A row longer than a command
word places nothing. -/
def State.withFetchWord (s : State) (nbits w : Nat) : State :=
  match tableWord nbits w with
  | some c => placeCommand c s
  | none => s

end Sys2Proof.Machine
end

