-- ==== Sys2Proof/Safety.lean ====
section
/-! DEFINITION. What counts as a safe run, in the terms the statements use: runs over turns, prompt and fair environments, what a
bring-up carries, the invariants of the tracker, of the gating block and of the sync discipline, and static facts about
micro-programs. -/

namespace Sys2Proof.Machine

/-! ### Runs -/

/-- The given turns, one after another, stopping at the first fault or refusal. -/
def runTurns : List Turn → State → Host.Outcome State Fault Refusal
  | [], s => .next s
  | t :: ts, s =>
    match runTurn t s with
    | .next s' => runTurns ts s'
    | .fault f => .fault f
    | .refused r => .refused r

/-- `k` steps, stopping at the first fault or refusal. -/
def runSteps : Nat → State → Host.Outcome State Fault Refusal
  | 0, s => .next s
  | k + 1, s =>
    match step s with
    | .next s' => runSteps k s'
    | .fault f => .fault f
    | .refused r => .refused r

/-- One step with `t` as the next turn of the agenda, before those the state already holds. -/
def stepWith (t : Turn) (s : State) : Host.Outcome State Fault Refusal := step { s with agenda := t :: s.agenda }

/-- The schedule in which the CTC takes a step for each answer and GTSYNC steps after each of them ("GTSYNC stepping before each poll",
spec/95_test_vectors.md P1). -/
def prompt (as : List Answer) : List Turn := as.flatMap fun a => [.ctc a, .gtsync]

/-- ENV offers a value that satisfies every poll the block makes, whatever poll this answer meets (the examples' "every poll satisfied
at its first read", R185; an instance of ENV_FAIR, R340). -/
def envReady (c : Config) (a : Answer) : Bool :=
  pollHolds [(.swrst, 0)] (readValue c .gtCtrl [] a)
  && pollHolds [(.syncbusy, 0)] (readValue c .gtStatus [] a)
  && pollHolds [(.int32kRdy, 1), (.ext32kRdy, 1), (.multRdy, 1), (.multLockc, 1), (.multLockf, 1)]
      (readValue c .oscStatus [] a)

/-- The turns that move a command along: the CTC's and GTSYNC's. -/
def isWorkTurn : Turn → Bool
  | .ctc _ => true
  | .gtsync => true
  | .host _ => false
  | .blockReset => false
  | .powerOn => false

/-- The turns that reset the block (R330). -/
def isResetTurn : Turn → Bool
  | .blockReset => true
  | .powerOn => true
  | .ctc _ => false
  | .gtsync => false
  | .host _ => false

/-- No update is in flight, where the module is used. -/
def quiet (s : State) : Bool := !s.cfg.gating || s.gt.pending.isNone

/-! ### Fair environments -/

/-- The state after `n` turns of an endless schedule, none once a turn stopped. -/
def stateAt (sched : Nat → Turn) (s : State) : Nat → Option State
  | 0 => some s
  | n + 1 =>
    match stateAt sched s n with
    | none => none
    | some t =>
      match runTurn (sched n) t with
      | .next u => some u
      | .fault _ => none
      | .refused _ => none

/-- The CTC's turn `m` of a schedule reads what the poll `r, pred` at `mpc` waits for. -/
def pollMet (sched : Nat → Turn) (s : State) (mpc : Nat) (r : Reg) (pred : List (RegField × Nat)) (m : Nat) : Prop :=
  ∃ t a, stateAt sched s m = some t ∧ sched m = .ctc a ∧ t.busy = true ∧ t.mpc = mpc ∧ pollHolds pred (readReg r a t) = true

/-- `ENV_FAIR` of a schedule from a state (R340, R341): a CTC with BUSY = 1 takes a step eventually; GTSYNC takes one eventually when
an update is in flight; and a poll the CTC stands at holds at some finite repetition, unless a reset aborts the command first. -/
structure EnvFair (sched : Nat → Turn) (s : State) : Prop where
  ctcSteps : ∀ n t, stateAt sched s n = some t → t.busy = true → ∃ m, n ≤ m ∧ ∃ a, sched m = .ctc a
  syncSteps : ∀ n t, stateAt sched s n = some t → t.gt.pending ≠ none → ∃ m, n ≤ m ∧ sched m = .gtsync
  pollsHold : ∀ n t r pred back, stateAt sched s n = some t → t.busy = true → t.prog[t.mpc]? = some (.poll r pred back) →
    ∃ m, n ≤ m ∧ (isResetTurn (sched m) = true ∨ pollMet sched s t.mpc r pred m)

/-- The phase that admits a command (R113). -/
def admittedIn : Instr → Phase
  | .bringup48 _ => .powerOn
  | .bringup8 => .powerOn
  | .lookup _ => .configured
  | .claim _ _ _ _ => .configured
  | .enable _ _ => .configured
  | .standby _ _ => .configured

/-- Command `i` answers at once: its micro-program is one RESP; its issue, then one CTC step whatever ENV offers, leave the response
`{hi, lo}` and the phase `ph`, and besides them change only CUR, PROG, MPC, BUSY and RSP_VALID; no transaction is made. -/
def answersAtOnce (i : Instr) (s : State) (lo hi : Word) (ph : Phase) : Prop :=
  ∃ t p, exec i s = .next t ∧ ∀ a, stepWith (.ctc a) t = .next
    { s with
      cur := s.cmdHi ++ s.cmdLo, prog := [.resp p], mpc := 0, busy := false, rspValid := true, rspLo := lo, rspHi := hi,
      phase := ph }

/-- A host store of `v` to CMD_LO issues a command that answers at once with RSP_LO = `lo`: the store lands, the word is latched, and
besides them only PROG, MPC, BUSY, RSP_VALID, RSP_LO and RSP_HI change; no transaction is made. -/
def storeAnswersAtOnce (s : State) (v lo : Word) : Prop :=
  ∃ t p, stepWith (.host (hostStoreAt s.cfg 0x00 v)) s = .next t ∧ ∀ a, stepWith (.ctc a) t = .next
    { s with
      cmdLo := v, hostReply := .stored, cur := s.cmdHi ++ v, prog := [.resp p], mpc := 0, busy := false, rspValid := true,
      rspLo := lo, rspHi := 0 }

/-- A 32-bit host load at a window offset returns `v` and changes nothing else. -/
def loadReturns (s : State) (off : Nat) (v : Word) : Prop :=
  stepWith (.host (hostLoadAt s.cfg off)) s = .next { s with hostReply := .loaded v }

/-- The state elements that a command's run to completion leaves alone whatever it is: the parameters, the window registers the host
writes, DROP, CUR as latched, and the model's own fields but the transaction history. -/
def sameWindow (s u : State) : Prop :=
  u.cfg = s.cfg ∧ u.cmdLo = s.cmdLo ∧ u.cmdHi = s.cmdHi ∧ u.drop = s.drop ∧ u.cur = s.cmdHi ++ s.cmdLo ∧
  u.hostReply = s.hostReply ∧ u.agenda = s.agenda ∧ u.drawIx = s.drawIx

/-- Command `i` completes in `n` CTC steps under every prompt environment: it is issued, it runs to its response, and the state it
ends in is as `post` says. -/
def completesIn (n : Nat) (i : Instr) (s : State) (post : State → Prop) : Prop :=
  ∀ as : List Answer, as.length = n → (∀ a ∈ as, envReady s.cfg a = true) →
    ∃ t u, exec i s = .next t ∧ runTurns (prompt as) t = .next u ∧ u.busy = false ∧ u.rspValid = true ∧ sameWindow s u ∧ post u

/-! ### Micro-programs -/

/-- Whether a micro-operation is one register-port transaction (R142). -/
def isPortOp : MicroOp → Bool
  | .wr _ _ | .wr8 _ _ | .rd _ | .wrm _ _ | .poll _ _ _ => true
  | .cal | .setft _ _ | .setuse _ | .resp _ => false

/-- The register-port transactions of a micro-program when every poll holds at its first read (R154, R187). -/
def portCount (p : List MicroOp) : Nat := p.countP isPortOp

/-- Whether a micro-operation ends its command. -/
def isResp : MicroOp → Bool
  | .resp _ => true
  | .wr _ _ | .wr8 _ _ | .rd _ | .wrm _ _ | .poll _ _ _ | .cal | .setft _ _ | .setuse _ => false

/-- Whether a micro-operation writes the register `r`. -/
def writesReg (r : Reg) : MicroOp → Bool
  | .wr r' _ | .wr8 r' _ | .wrm r' _ => decide (r' = r)
  | .rd _ | .poll _ _ _ | .cal | .setft _ _ | .setuse _ | .resp _ => false

/-- Whether a micro-operation writes a GT register. -/
def writesGt : MicroOp → Bool
  | .wr r _ | .wr8 r _ | .wrm r _ => isGt r
  | .rd _ | .poll _ _ _ | .cal | .setft _ _ | .setuse _ | .resp _ => false

/-- Whether a micro-operation sources generator `g`: a full GT.GENCTRL write with that ID (R150). -/
def sourcesGen (g : GenId) : MicroOp → Bool
  | .wr r fs => decide (r = .gtGenctrl) && decide (fs.lookup .ident = some (.lit g))
  | .wr8 _ _ | .wrm _ _ | .rd _ | .poll _ _ _ | .cal | .setft _ _ | .setuse _ | .resp _ => false

/-- Whether a micro-operation is a poll for one reading of the given fields. -/
def pollsFor (r : Reg) (pred : List (RegField × Nat)) : MicroOp → Bool
  | .poll r' p _ => decide (r' = r) && decide (p = pred)
  | .wr _ _ | .wr8 _ _ | .wrm _ _ | .rd _ | .cal | .setft _ _ | .setuse _ | .resp _ => false

/-- Whether a micro-operation is the second half of a Modify that sets one field of `r` to 1. -/
def setsBit (r : Reg) (f : RegField) : MicroOp → Bool
  | .wrm r' fs => decide (r' = r) && decide (fs = [(f, .lit 1)])
  | .wr _ _ | .wr8 _ _ | .poll _ _ _ | .rd _ | .cal | .setft _ _ | .setuse _ | .resp _ => false

/-- Every operation that `q` marks has, somewhere before it, one that `p` marks. -/
def comesBefore (p q : MicroOp → Bool) : List MicroOp → Bool
  | [] => true
  | op :: ops => !q op && (p op || comesBefore p q ops)

/-- A field value fits its field, where the field has a width (R75, R181). -/
def valFits (c : Config) (r : Reg) (f : RegField) (v : Val) : Bool :=
  decide (f = .other) ||
  match v with
  | .lit n => decide (n < 2 ^ fieldWidth c r f)
  | .calCoarse => decide (c.calCoarseW ≤ fieldWidth c r f)
  | .calFine => decide (c.calFineW ≤ fieldWidth c r f)
  | .calCoarseQuarter => decide (c.calCoarseW - 2 ≤ fieldWidth c r f)

/-- Every field of a map fits the register's field, OTHER apart (R75, R78). -/
def mapFits (c : Config) (r : Reg) (m : FieldMap) : Bool :=
  (regFields r).all fun f => decide (f = .other) || decide (fieldOf m f < 2 ^ fieldWidth c r f)

/-- A calibration fits its widths (R32, R81). -/
def calFits (c : Config) (b : CalBuf) : Bool := decide (b.coarse < 2 ^ c.calCoarseW) && decide (b.fine < 2 ^ c.calFineW)

/-- Every value a transaction carried is within its width (R75, R76, R78, R81). -/
def txnFits (c : Config) : Txn → Bool
  | .write r m => mapFits c r m
  | .write8 _ v => decide (v < 256)
  | .read r m => mapFits c r m
  | .cal b => calFits c b

/-- Whether every value a micro-operation writes fits where it is written (R75, R76). -/
def writeFits (c : Config) : MicroOp → Bool
  | .wr r fs | .wrm r fs => fs.all fun p => decide (p.1 ∈ regFields r) && valFits c r p.1 p.2
  | .wr8 _ v => decide (v < 256)
  | .rd _ | .poll _ _ _ | .cal | .setft _ _ | .setuse _ | .resp _ => true

/-- Every WRM stands right after the RD of its own register (R144); `last` is the register the operation before has read. -/
def modifiesOk (last : Option Reg) : List MicroOp → Bool
  | [] => true
  | .rd r :: ops => modifiesOk (some r) ops
  | .wrm r _ :: ops => decide (last = some r) && modifiesOk none ops
  | .wr _ _ :: ops | .wr8 _ _ :: ops | .poll _ _ _ :: ops | .cal :: ops | .setft _ _ :: ops | .setuse _ :: ops
  | .resp _ :: ops => modifiesOk none ops

/-- Whether a micro-operation writes the tracker. -/
def records : MicroOp → Bool
  | .setft _ _ => true
  | .setuse _ => true
  | .wr _ _ | .wr8 _ _ | .rd _ | .wrm _ _ | .poll _ _ _ | .cal | .resp _ => false

/-- FT and USAGE after one more micro-operation has executed (R142). -/
def recordOne (x : Vector Word 8 × BitVec 64) : MicroOp → Vector Word 8 × BitVec 64
  | .setft g v => (x.1.set g v, x.2)
  | .setuse c => (x.1, x.2 ||| (1#64 <<< c))
  | .wr _ _ | .wr8 _ _ | .rd _ | .wrm _ _ | .poll _ _ _ | .cal | .resp _ => x

/-- FT and USAGE as the listed micro-operations leave them, from all 0 (R48, R142). -/
def recorded (ops : List MicroOp) : Vector Word 8 × BitVec 64 := ops.foldl recordOne (Vector.replicate 8 0, 0)

/-- Each poll's target stays in the program and is a poll too: `back` is 0, or 1 right after another poll (R143, R146). -/
def backsOk (afterPoll : Bool) : List MicroOp → Bool
  | [] => true
  | .poll _ _ b :: ops => (decide (b = 0) || (decide (b = 1) && afterPoll)) && backsOk true ops
  | .wr _ _ :: ops | .wr8 _ _ :: ops | .rd _ :: ops | .wrm _ _ :: ops | .cal :: ops | .setft _ _ :: ops | .setuse _ :: ops
  | .resp _ :: ops => backsOk false ops

/-! ### What a bring-up is to carry -/

/-- What is said of one or two transactions: a full write with the listed values and 0 elsewhere, a read, a Modify (a read, then a write
with one field replaced and the rest as read), the calibration read. -/
inductive Carries
  | wr (r : Reg) (fs : FieldMap)
  | rd (r : Reg)
  | modify (r : Reg) (f : RegField) (v : Nat)
  | cal (c : CalBuf)
  deriving DecidableEq, Repr

/-- The transactions, the oldest first, are exactly what the list says (R75, R79, R83). -/
def carriesAll : List Carries → List Txn → Bool
  | [], [] => true
  | .wr r fs :: ps, .write r' m :: ts =>
    decide (r' = r) && decide (m.map Prod.fst = regFields r)
    && (regFields r).all (fun f => decide (fieldOf m f = (fs.lookup f).getD 0)) && carriesAll ps ts
  | .rd r :: ps, .read r' _ :: ts => decide (r' = r) && carriesAll ps ts
  | .modify r f v :: ps, .read r' x :: .write r'' m :: ts =>
    decide (r' = r) && decide (r'' = r) && decide (m.map Prod.fst = regFields r)
    && (regFields r).all (fun f' => decide (fieldOf m f' = if f' = f then v else fieldOf x f')) && carriesAll ps ts
  | .cal c :: ps, .cal c' :: ts => decide (c' = c) && carriesAll ps ts
  | _, _ => false

/-- A generator's four transactions (R150). -/
def genCarries (c : Config) (g : GenId) (k : SourceKind) (idc : Nat) : List Carries :=
  [ .wr .gtGendiv [(.ident, g), (.div, 1)], .rd .gtStatus,
    .wr .gtGenctrl [(.ident, g), (.src, srcCode c k), (.genen, 1), (.idc, idc), (.oe, 1)], .rd .gtStatus ]

/-- An oscillator start and the multiplier's reference feed (R173, R175), either side of the tree reset (R146), which alone remains
without an oscillator reference. -/
def startCarries (c : Config) : Variant → List Carries
  | .int32k =>
    [ .wr .oscInt32k [(.enable, 1), (.startup, c.startupInt32k), (.other, c.oscExtraInt32k)], .rd .oscStatus,
      .wr .gtCtrl [(.swrst, 1)], .rd .gtCtrl, .rd .gtStatus ] ++ genCarries c 1 .int32k 0 ++
    [ .wr .gtClkctrl [(.ident, c.multRefCh), (.gen, 1), (.clken, 1)], .rd .gtStatus ]
  | .ext32k =>
    [ .wr .oscExt32k [(.enable, 1), (.startup, c.startupExt32k), (.other, c.oscExtraExt32k)], .rd .oscStatus,
      .wr .gtCtrl [(.swrst, 1)], .rd .gtCtrl, .rd .gtStatus ] ++ genCarries c 1 .ext32k 0 ++
    [ .wr .gtClkctrl [(.ident, c.multRefCh), (.gen, 1), (.clken, 1)], .rd .gtStatus ]
  | .usb => [ .wr .gtCtrl [(.swrst, 1)], .rd .gtCtrl, .rd .gtStatus ]
  | .openLoop => [ .wr .gtCtrl [(.swrst, 1)], .rd .gtCtrl, .rd .gtStatus ]

/-- The multiplier's ratio and steps (R177, R180 to R182). -/
def ratioCarries (c : Config) (b : CalBuf) : Variant → List Carries
  | .int32k => [ .wr .oscMultMul [(.mul, 1464), (.cstep, b.coarse / 4), (.fstep, 10)] ]
  | .ext32k => [ .wr .oscMultMul [(.mul, 1465), (.cstep, 31), (.fstep, 511)] ]
  | .usb => [ .wr .oscMultMul [(.mul, 48000), (.cstep, 1), (.fstep, 1)] ]
  | .openLoop => if c.openLoopStageMul then [ .wr .oscMultMul [(.mul, 48000), (.cstep, 1), (.fstep, 1)] ] else []

/-- The mode flags and what waits for the multiplier (R176, R179). -/
def modeCarries : Variant → List Carries
  | .int32k =>
    [ .wr .oscMultCtrl [(.mode, 1), (.ccdis, 1), (.bplckc, 1)], .rd .oscStatus, .modify .oscMultCtrl .enable 1, .rd .oscStatus ]
  | .ext32k =>
    [ .wr .oscMultCtrl [(.mode, 1), (.waitlock, 1), (.qldis, 1)], .rd .oscStatus, .modify .oscMultCtrl .enable 1, .rd .oscStatus,
      .rd .oscStatus ]
  | .usb =>
    [ .wr .oscMultCtrl [(.mode, 1), (.ccdis, 1), (.usbcrm, 1), (.bplckc, 1)], .rd .oscStatus, .modify .oscMultCtrl .enable 1,
      .rd .oscStatus ]
  | .openLoop => [ .wr .oscMultCtrl [], .rd .oscStatus, .modify .oscMultCtrl .enable 1, .rd .oscStatus ]

/-- The prescalers at divide-by-1 (R184). -/
def prescCarries (c : Config) : List Carries :=
  [ .modify .oscRc8m .presc c.prescDiv1, .wr .busCpudiv [(.div, c.div1)], .wr .busAdiv [(.div, c.div1)],
    .wr .busBdiv [(.div, c.div1)], .wr .busCdiv [(.div, c.div1)] ]

/-- Everything BRINGUP48 carries when every poll holds at its first read, `b` being the calibration it reads (R171 to R185). -/
def bringup48Carries (c : Config) (v : Variant) (b : CalBuf) : List Carries :=
  [ .modify .flashCtrl .rws c.flashWs48m, .modify .busMask .gt 1 ] ++ startCarries c v ++
  [ .cal b, .wr .oscMultCtrl [], .rd .oscStatus, .wr .oscMultVal [(.coarse, b.coarse), (.fine, b.fine)] ] ++
  ratioCarries c b v ++ modeCarries v ++ genCarries c 0 .mult48m 1 ++ prescCarries c

/-- Everything BRINGUP8 carries when every poll holds at its first read (R184, R191). -/
def bringup8Carries (c : Config) : List Carries :=
  [ .modify .busMask .gt 1, .wr .gtCtrl [(.swrst, 1)], .rd .gtCtrl, .rd .gtStatus ] ++ genCarries c 0 .rc8m 0 ++ prescCarries c

/-! ### The tracker's invariant -/

/-- What the final RESP of the command word `cur` may do to PHASE, given the tracker it leaves (R25, R49, R315): only a bring-up that
answers OK EMPTY enters CONFIGURED, from POWER_ON and with FT[0] recorded; only a FATAL CLAIM enters HALTED, from CONFIGURED; any
other answer keeps the phase and is not FATAL. -/
def respOk (cur : CmdWord) (ft : Vector Word 8) (usage : BitVec 64) (ph : Phase) (p : Resp) : Bool :=
  match p.phase with
  | none =>
    decide (p.status ≠ .fatal) &&
    (decide (ph = .configured) ||
      (decide (ph = .powerOn) && decide (ft = Vector.replicate 8 0) && decide (usage = 0)))
  | some .configured =>
    decide (p = { phase := some .configured }) && decide (ph = .powerOn) &&
    (decide (fieldOp cur = 1) || decide (fieldOp cur = 2)) &&
    (decide (ft.get 0 = 48000000) || decide (ft.get 0 = 8000000))
  | some .halted => decide (p.status = .fatal) && decide (ph = .configured) && decide (fieldOp cur = 4)
  | some .powerOn => false

/-- The rest of a micro-program treats the tracker as the rules allow: an FT entry is written only where it is 0 and with a nonzero
frequency of at most 96 MHz, a USAGE bit only below NUM_CHANNELS, and the one RESP comes last (R21 to R25, R49, R141). -/
def tailOk (c : Config) (cur : CmdWord) (ft : Vector Word 8) (usage : BitVec 64) (ph : Phase) : List MicroOp → Bool
  | [] => false
  | .setft g v :: ops =>
    decide (ft.get g = 0) && decide (v ≠ 0) && decide (v.toNat ≤ 96000000) && tailOk c cur (ft.set g v) usage ph ops
  | .setuse ch :: ops => decide (ch < c.numChannels) && tailOk c cur ft (usage ||| (1#64 <<< ch)) ph ops
  | .resp p :: ops => ops.isEmpty && respOk cur ft usage ph p
  | .wr _ _ :: ops | .wr8 _ _ :: ops | .rd _ :: ops | .wrm _ _ :: ops | .poll _ _ _ :: ops | .cal :: ops =>
    tailOk c cur ft usage ph ops

/-- The tracker's invariant (R23, R25, R49): no frequency above 96 MHz; no USAGE bit from NUM_CHANNELS on; FT[0] is 48 MHz or
8 MHz outside POWER_ON; FT and USAGE are 0 in POWER_ON until a running bring-up records its result, and then hold what its executed micro-operations have
recorded and nothing else (assumption 9; R186: "FT and USAGE change only here"); no command runs in HALTED; and the rest of a running
micro-program keeps all of this. -/
structure TrackerInv (s : State) : Prop where
  instanceOk : configWf s.cfg = true
  freqBound : ∀ g, (s.ft.get g).toNat ≤ 96000000
  channelBound : ∀ ch, s.cfg.numChannels ≤ ch → channelUsed s ch = false
  coreClock : s.phase ≠ .powerOn → s.ft.get 0 = 48000000 ∨ s.ft.get 0 = 8000000
  powerOnClear : s.phase = .powerOn → (s.busy = true → (s.prog.take s.mpc).all (fun op => !records op) = true) →
    s.ft = Vector.replicate 8 0 ∧ s.usage = 0
  haltedIdle : s.phase = .halted → s.busy = false
  backs : s.busy = true → backsOk false s.prog = true
  tail : s.busy = true → tailOk s.cfg s.cur s.ft s.usage s.phase (s.prog.drop s.mpc) = true
  powerOnRecords : s.phase = .powerOn → s.busy = true → (s.ft, s.usage) = recorded (s.prog.take s.mpc)

/-! ### The gating block's invariant -/

/-- The gating block's invariant (R250, R251): SYNCBUSY exactly while an update is in flight, SWRST exactly while it is a reset, the
selected channel exists, each bank's divider fits `W(g)`, and every other bank field, the update in flight, CALBUF and every value
the port has carried are within their widths (R32, R75, R77, R78); so is what a running micro-program still writes. -/
structure GateInv (s : State) : Prop where
  instanceOk : configWf s.cfg = true
  busyIffPending : s.gt.syncbusy = s.gt.pending.isSome
  resetIffPending : s.gt.swrst = decide (s.gt.pending = some .reset)
  selected : s.gt.selCh < s.cfg.numChannels
  dividers : ∀ g, (s.gt.gens.get g).div < 2 ^ divWidth g
  genFits : ∀ g, ctlFits s.cfg (s.gt.gens.get g).ctl = true
  channelFits : ∀ k, chanFits s.cfg (s.gt.chans.get k) = true
  pendingFits : ∀ u, s.gt.pending = some u → updateFits s.cfg u = true
  calibration : calFits s.cfg s.calbuf = true
  history : ∀ x ∈ s.trace, txnFits s.cfg x = true
  writes : s.busy = true → s.prog.all (writeFits s.cfg) = true
  modifies : s.busy = true → modifiesOk none s.prog = true
  backs : s.busy = true → backsOk false s.prog = true
  buffer : s.busy = true → ∀ r fs, s.prog[s.mpc]? = some (.wrm r fs) → mapFits s.cfg r s.modbuf = true

/-! ### The sync discipline -/

/-- The rest of a micro-program never writes, and outside a poll never reads, a GT register while an update may be in flight (`flag`),
ends with none in flight, closes the bus-clock gate nowhere, and is not empty (R148, R172). -/
def syncOk (flag : Bool) : List MicroOp → Bool
  | [] => false
  | .wr r fs :: ops | .wrm r fs :: ops =>
    if isGt r then !flag && syncOk true ops
    else if r = .busMask then decide (fs = [(.gt, .lit 1)]) && syncOk flag ops
    else syncOk flag ops
  | .wr8 r _ :: ops => (decide (r = .gtGenctrl) || decide (r = .gtClkctrl)) && !flag && syncOk true ops
  | .poll r pred _ :: ops => if r = .gtStatus ∧ pred = [(.syncbusy, 0)] then syncOk false ops else syncOk flag ops
  | .rd r :: ops => (!isGt r || !flag) && syncOk flag ops
  | .cal :: ops | .setft _ _ :: ops | .setuse _ :: ops => syncOk flag ops
  | .resp _ :: _ => !flag

/-- The sync discipline's invariant (R148, R267): an update is in flight only while a command runs whose rest waits for it before the
next GT write, only with the module used and its gate open, and SYNCBUSY shows it. -/
structure SyncInv (s : State) : Prop where
  busyIffPending : s.gt.syncbusy = s.gt.pending.isSome
  idleQuiet : s.busy = false → s.gt.pending = none
  gatedQuiet : s.gt.gten = false → s.gt.pending = none
  unusedQuiet : s.cfg.gating = false → s.gt.pending = none
  backs : s.busy = true → backsOk false s.prog = true
  tail : s.busy = true → syncOk s.gt.pending.isSome (s.prog.drop s.mpc) = true

end Sys2Proof.Machine
end

