-- ==== Sys2Proof/Certificates/Slice0/Obligations.lean ====
section
/-! DEFINITION. The statements about CTC-1. Each docstring names the rules of spec/ it formalises; OBLIGATIONS.json lists them. -/

open Sys2Proof Sys2Proof.Machine

/-! ### Encoding and fetch -/

/-- R100, R101, R104, R105: a well-formed command's word decodes to that command, whatever its operands. -/
def Obligations.DecodeOfEncodeGivesBackTheCommand : Prop :=
  ∀ i : Instr, i.wf = true → decode (encode i) = .ok i

/-- R101, R105: a word has at most one meaning, and the word of that meaning is the word itself, so a decoded command is well formed. -/
def Obligations.EncodeOfDecodeGivesBackTheWord : Prop :=
  ∀ (w : CmdWord) (i : Instr), decode w = .ok i → encode i = w ∧ i.wf = true

/-- R117: the spec's encoding examples decode to the commands they spell. -/
def Obligations.EncodingExamplesDecode : Prop :=
  decode 0x0000000000000001 = .ok (.bringup48 .int32k) ∧
  decode 0x0000000000001001 = .ok (.bringup48 .ext32k) ∧
  decode 0x0000000000002001 = .ok (.bringup48 .usb) ∧
  decode 0x0000000000003001 = .ok (.bringup48 .openLoop) ∧
  decode 0x0000000000000002 = .ok .bringup8 ∧
  decode 0x0000000000000033 = .ok (.lookup 3) ∧
  decode 0x0000000400000534 = .ok (.claim 3 false .gen1 4) ∧
  decode 0x0001000000000214 = .ok (.claim 1 false .rc8m 65536) ∧
  decode 0x00000001000000B4 = .ok (.claim 3 true .int32k 1) ∧
  decode 0x0000000000050035 = .ok (.enable 5 3) ∧
  decode 0x00000000000000A6 = .ok (.standby 2 true)

/-- R33, R45, R141: when the CTC is free and not halted, a store to CMD_LO that completes the word of a command runs that command's
meaning, with CMD_LO holding the value stored (the reply is the model's own field). -/
def Obligations.StepRunsTheDecodedCommand : Prop :=
  ∀ (s : State) (v : Word) (i : Instr), s.busy = false → s.phase ≠ .halted → decode (s.cmdHi ++ v) = .ok i →
    stepWith (.host (hostStoreAt s.cfg 0x00 v)) s = exec i { s with cmdLo := v, hostReply := .stored }

/-- Assumption 6 (the model's choice of how a command word is placed): outside HALTED, the step after `withFetchWord` runs the command
the table's bits spell, with the word in CMD_HI and CMD_LO. -/
def Obligations.PlacedWordIsRunByTheNextStep : Prop :=
  ∀ (s : State) (nbits w : Nat) (i : Instr), s.phase ≠ .halted → decodeTableWord nbits w = some i →
    ∃ c, tableWord nbits w = some c ∧ step (s.withFetchWord nbits w) =
      exec i { s with busy := false, cmdHi := c.extractLsb' 32 32, cmdLo := c.extractLsb' 0 32, hostReply := .stored }

/-- Assumption 4 (the agenda is the model's own): turns scripted in the agenda are run one after another by `step`, each exactly as
`runTurns` runs it. -/
def Obligations.AgendaRunsTurnByTurn : Prop :=
  ∀ (ts : List Turn) (s : State),
    runSteps ts.length { s with agenda := ts ++ s.agenda } = runTurns ts s

/-- R111, R112: a word with a reserved opcode is answered ILLEGAL RESERVED_OPCODE, whatever its other bits, and a word with a defined
opcode that fails its mask test ILLEGAL RESERVED_FIELD; in both cases in every phase that issues commands, and with nothing changed
but the window, the response and the sequencer's own registers. -/
def Obligations.UndecodableWordIsAnsweredIllegal : Prop :=
  ∀ (s : State) (v : Word), s.busy = false → s.phase ≠ .halted →
    ((fieldOp (s.cmdHi ++ v)).toNat = 0 ∨ 7 ≤ (fieldOp (s.cmdHi ++ v)).toNat → storeAnswersAtOnce s v 0x10000002) ∧
    (∀ row, opRow (fieldOp (s.cmdHi ++ v)) = some row → (s.cmdHi ++ v) &&& row.mask ≠ row.pattern →
      storeAnswersAtOnce s v 0x11000002)

/-! ### The host window -/

/-- R33: a CMD_LO store when BUSY = 0 and PHASE is not HALTED lands and issues the command `{CMD_HI, v}` in the same step; when BUSY = 1
or PHASE = HALTED it is dropped, CMD_LO keeps its value, nothing is issued and DROP becomes 1; a load returns CMD_LO; reset leaves 0. -/
def Obligations.CmdLoStoreIssuesOrIsDropped : Prop :=
  (∀ (s : State) (v : Word), s.busy = false → s.phase ≠ .halted →
    ∃ p, stepWith (.host (hostStoreAt s.cfg 0x00 v)) s = .next
      { s with cmdLo := v, hostReply := .stored, cur := s.cmdHi ++ v, busy := true, rspValid := false, prog := p, mpc := 0 }) ∧
  (∀ (s : State) (v : Word), s.busy = true ∨ s.phase = .halted →
    stepWith (.host (hostStoreAt s.cfg 0x00 v)) s = .next { s with drop := true, hostReply := .stored }) ∧
  (∀ s : State, loadReturns s 0x00 s.cmdLo) ∧
  State.reset.cmdLo = 0

/-- R34: CMD_HI is bits 63:32 of the word a CMD_LO store issues; every CMD_HI store lands, whatever BUSY and PHASE are, and changes
nothing else of the block (so only a later issue sees it); a load returns CMD_HI; reset leaves 0. -/
def Obligations.CmdHiStoreAlwaysLands : Prop :=
  (∀ (s : State) (v : Word), s.busy = false → s.phase ≠ .halted →
    ∃ t, stepWith (.host (hostStoreAt s.cfg 0x00 v)) s = .next t ∧ t.cur.extractLsb' 32 32 = s.cmdHi) ∧
  (∀ (s : State) (v : Word),
    stepWith (.host (hostStoreAt s.cfg 0x04 v)) s = .next { s with cmdHi := v, hostReply := .stored }) ∧
  (∀ s : State, loadReturns s 0x04 s.cmdHi) ∧
  State.reset.cmdHi = 0

/-- R37: CSR reads BUSY in bit 0, RSP_VALID in bit 1, PHASE in bits 3:2 and DROP in bit 8, every other bit 0; a store to it changes only
DROP, which bit 8 = 1 clears and a dropped CMD_LO store sets; an issue clears RSP_VALID and a response sets it; reset leaves every
field 0. -/
def Obligations.CsrShowsItsFieldsAndAStoreClearsOnlyDrop : Prop :=
  (∀ s : State, loadReturns s 0x10 (BitVec.ofNat 32 (s.busy.toNat + 2 * s.rspValid.toNat +
    4 * (match s.phase with | .powerOn => 0 | .configured => 1 | .halted => 2) + 256 * s.drop.toNat))) ∧
  (∀ (s : State) (v : Word),
    stepWith (.host (hostStoreAt s.cfg 0x10 v)) s =
      .next { s with drop := if v.getLsbD 8 then false else s.drop, hostReply := .stored }) ∧
  (∀ (s : State) (v : Word), s.busy = true ∨ s.phase = .halted →
    ∃ t, stepWith (.host (hostStoreAt s.cfg 0x00 v)) s = .next t ∧ t.drop = true) ∧
  (∀ (i : Instr) (s t : State), exec i s = .next t → t.rspValid = false) ∧
  (∀ (s : State) (p : Resp) (a : Answer), s.busy = true → s.prog[s.mpc]? = some (.resp p) →
    ∃ t, stepWith (.ctc a) s = .next t ∧ t.rspValid = true) ∧
  loadReturns State.reset 0x10 0

/-- R35, R36, R38, R39: RSP_LO, RSP_HI, FREQ0 to FREQ7, USAGE_LO and USAGE_HI read what they name, at any time, BUSY = 1 included, with no
side effect, and each reads 0 after reset. -/
def Obligations.ResponseAndObservationRegistersRead : Prop :=
  (∀ s : State, loadReturns s 0x08 s.rspLo ∧ loadReturns s 0x0C s.rspHi ∧
    (∀ g : GenId, loadReturns s (0x20 + 4 * g) (s.ft.get g)) ∧
    loadReturns s 0x40 (s.usage.setWidth 32) ∧ loadReturns s 0x44 ((s.usage >>> 32).setWidth 32)) ∧
  loadReturns State.reset 0x08 0 ∧ loadReturns State.reset 0x0C 0 ∧
  (∀ g : GenId, loadReturns State.reset (0x20 + 4 * g) 0) ∧
  loadReturns State.reset 0x40 0 ∧ loadReturns State.reset 0x44 0

/-- R40: PARAM reads NUM_CHANNELS in bits 6:0 and MULT_REF_CH in bits 13:8, every other bit 0. -/
def Obligations.ParamReadsTheInstance : Prop :=
  ∀ s : State, configWf s.cfg = true →
    loadReturns s 0x48 (BitVec.ofNat 32 (s.cfg.numChannels + 256 * s.cfg.multRefCh))

/-- R73: a host access to the window is a bus error, a fault of the HOST agent, exactly when it is not 32 bits wide, is not 4-byte
aligned, falls on a reserved offset, or stores to a read-only register; every other access to the window takes effect. -/
def Obligations.BusErrorExactlyOnAnIllegalAccess : Prop :=
  ∀ (a : HostAccess) (s : State), s.cfg.base ≤ a.addr → a.addr < s.cfg.base + 0x80 →
    let off := a.addr - s.cfg.base
    let illegal := a.width ≠ 32 ∨ off % 4 ≠ 0 ∨ (0x14 ≤ off ∧ off < 0x20) ∨ 0x4C ≤ off ∨
      (a.store = true ∧ (off = 0x08 ∨ off = 0x0C ∨ (0x20 ≤ off ∧ off < 0x4C)))
    (illegal → ∃ k, stepWith (.host a) s = .fault (.hostBusError k)) ∧
    (¬ illegal → ∃ t, stepWith (.host a) s = .next t)

/-! ### Reset -/

/-- R48: after block reset every CTC state element holds its tabled value, and so it does after a chip power-on, which asserts `rst`
(R330), and in the state the model starts in. -/
def Obligations.ResetLeavesTheTabledValues : Prop :=
  ∀ s : State, (s = State.reset ∨ (∃ s₀, stepWith .blockReset s₀ = .next s) ∨ (∃ s₀, stepWith .powerOn s₀ = .next s)) →
    (∀ g, s.ft.get g = 0) ∧ s.usage = 0 ∧ s.phase = .powerOn ∧ s.busy = false ∧ s.cur = 0 ∧ s.prog = [] ∧ s.mpc = 0 ∧
    (∀ f, fieldOf s.modbuf f = 0) ∧ s.calbuf = { coarse := 0, fine := 0 } ∧ s.cmdLo = 0 ∧ s.cmdHi = 0 ∧ s.rspLo = 0 ∧
    s.rspHi = 0 ∧ csrWord s = 0 ∧ haltReq s = false

/-- R330, R332, R333: block reset is taken in any state, a running command included, and leaves the external registers, the
transactions already made and the parameters as they were. -/
def Obligations.BlockResetKeepsTheExternalRegisters : Prop :=
  ∀ s : State, ∃ t, stepWith .blockReset s = .next t ∧ t.gt = s.gt ∧ t.trace = s.trace ∧ t.cfg = s.cfg ∧ t.busy = false ∧
    t.phase = .powerOn

/-- R252: at chip power-on the gating block holds its power-on values, the instance's GEN_POR, CH_POR and BUS_GT_POR. -/
def Obligations.PowerOnSetsTheGatingBlock : Prop :=
  ∀ s : State, ∃ t, stepWith .powerOn s = .next t ∧ t.cfg = s.cfg ∧
    t.gt = { gten := s.cfg.busGtPor, gens := s.cfg.genPor, chans := s.cfg.chPor, selGen := 0, selCh := 0, swrst := false,
             syncbusy := false, pending := none }

/-! ### Issue -/

/-- R45, and two choices of the model: a command's meaning is its issue (assumption 1), and `exec` issues in every state, a running
command's and HALTED among them, where the block never issues (assumption 23). The issue is one step: CUR takes `{CMD_HI, CMD_LO}`,
BUSY 1, RSP_VALID 0, PROG a micro-program that is not empty, MPC 0; every other state element, RSP_LO and RSP_HI among them, keeps
its value. -/
def Obligations.IssueChangesOnlyTheSequencer : Prop :=
  ∀ (i : Instr) (s : State), ∃ p, p ≠ [] ∧ exec i s = .next
    { s with cur := s.cmdHi ++ s.cmdLo, busy := true, rspValid := false, prog := p, mpc := 0 }

/-- R113: a bring-up outside POWER_ON, and an allocation command outside CONFIGURED, answers ILLEGAL WRONG_PHASE and changes nothing
but the response and the sequencer's own registers. In HALTED and while a command runs this is the model's choice (assumption 23):
the block never decodes there (R33, R110). -/
def Obligations.WrongPhaseIsAnsweredIllegal : Prop :=
  ∀ (i : Instr) (s : State), s.phase ≠ admittedIn i → answersAtOnce i s 0x12000002 0 s.phase

/-! ### The allocation commands -/

/-- R210: LOOKUP answers OK HANDLE (g, FT[g]) when FT[g] is not 0, else NONE GEN_NOT_CONFIGURED; it writes no tracker state and makes no
transaction. -/
def Obligations.LookupAnswersTheHandle : Prop :=
  ∀ (g : GenId) (s : State), s.phase = .configured →
    (s.ft.get g ≠ 0 → answersAtOnce (.lookup g) s (BitVec.ofNat 32 (0x10 + 0x100 * g)) (s.ft.get g) .configured) ∧
    (s.ft.get g = 0 → answersAtOnce (.lookup g) s 0x02000001 0 .configured)

/-- R214: a CLAIM of a configured generator answers NONE GEN_ALREADY_CONFIGURED, whatever its divider and source, and writes
nothing. -/
def Obligations.ClaimOfAConfiguredGeneratorAnswersNone : Prop :=
  ∀ (g : GenId) (idc : Bool) (k : SourceKind) (d : Nat) (s : State), s.phase = .configured → s.ft.get g ≠ 0 →
    answersAtOnce (.claim g idc k d) s 0x01000001 0 .configured

/-- R215, R216, R296 (and R217's answer): a CLAIM of an unconfigured generator is FATAL, halts the block and leaves FT and USAGE as they
were: DIVIDER_OUT_OF_RANGE on an illegal divider, then UNIMPLEMENTED_SOURCE on RAWIN or XTAL, then ZERO_FREQUENCY on a quotient
of 0. -/
def Obligations.ClaimFatalCases : Prop :=
  ∀ (g : GenId) (idc : Bool) (k : SourceKind) (d : Nat) (s : State), s.phase = .configured → s.ft.get g = 0 →
    let legal := 1 ≤ d ∧ d ≤ (if g = 1 then 65535 else if g = 2 then 31 else 255)
    (¬ legal → answersAtOnce (.claim g idc k d) s 0x20000003 0 .halted) ∧
    (legal → (k = .rawin ∨ k = .xtal) → answersAtOnce (.claim g idc k d) s 0x21000003 0 .halted) ∧
    (legal → ∀ f, sourceFreq s.ft k = some f → f / d = 0 → answersAtOnce (.claim g idc k d) s 0x22000003 0 .halted)

/-- R217: for a legal divider the resolved frequency is 0 in exactly two cases: the source is GEN1 and FT[1] < d, or the generator is 1,
the source a 32 kHz oscillator and d > 32768. -/
def Obligations.ZeroFrequencyArisesInExactlyTwoCases : Prop :=
  ∀ (g : GenId) (k : SourceKind) (d f : Nat) (s : State), legalDivider g d = true → sourceFreq s.ft k = some f →
    (f / d = 0 ↔ (k = .gen1 ∧ (s.ft.get 1).toNat < d) ∨ (g = 1 ∧ (k = .int32k ∨ k = .ext32k) ∧ 32768 < d))

/-- R8, R149, R213: the divider maxima and the source frequencies. -/
def Obligations.DividerMaximaAndSourceFrequencies : Prop :=
  (maxDiv 1 = 65535 ∧ maxDiv 2 = 31 ∧ ∀ g : GenId, g ≠ 1 → g ≠ 2 → maxDiv g = 255) ∧
  ∀ ft : Vector Word 8, sourceFreq ft .int32k = some 32768 ∧ sourceFreq ft .ext32k = some 32768 ∧
    sourceFreq ft .rc8m = some 8000000 ∧ sourceFreq ft .mult48m = some 48000000 ∧ sourceFreq ft .pll96m = some 96000000 ∧
    sourceFreq ft .gen1 = some (ft.get 1).toNat ∧ sourceFreq ft .rawin = none ∧ sourceFreq ft .xtal = none

/-- R150, R218, R219: a CLAIM that passes its checks makes SeqGen's four transactions with SeqGen's values, writes FT[g] with
`fsrc(s) // d`, and answers OK HANDLE (g, FT[g]); USAGE, PHASE, MODBUF and CALBUF keep their values. -/
def Obligations.ClaimConfiguresTheGenerator : Prop :=
  ∀ (g : GenId) (idc : Bool) (k : SourceKind) (d f : Nat) (s : State), s.phase = .configured → quiet s = true →
    s.ft.get g = 0 → 1 ≤ d → d ≤ (if g = 1 then 65535 else if g = 2 then 31 else 255) → sourceFreq s.ft k = some f →
    f / d ≠ 0 →
    completesIn 6 (.claim g idc k d) s fun u =>
      u.ft = s.ft.set g (BitVec.ofNat 32 (f / d)) ∧ u.usage = s.usage ∧ u.phase = .configured ∧
      u.rspLo = BitVec.ofNat 32 (0x10 + 0x100 * g) ∧ u.rspHi = BitVec.ofNat 32 (f / d) ∧
      u.modbuf = s.modbuf ∧ u.calbuf = s.calbuf ∧
      ∃ x₁ x₂, u.trace =
        [ .read .gtStatus x₂,
          .write .gtGenctrl [(.ident, g), (.src, srcCode s.cfg k), (.genen, 1), (.idc, idc.toNat), (.oe, 1), (.divsel, 0),
            (.runstdby, 0), (.other, 0)],
          .read .gtStatus x₁,
          .write .gtGendiv [(.ident, g), (.div, d), (.other, 0)] ] ++ s.trace

/-- R269: with the module used and its gate open, a CLAIM that completes leaves GEN[g] as SeqGen wrote it, the divider whole, and
SEL_GEN = g; nothing else of the gating block changes. -/
def Obligations.ClaimProgramsTheGeneratorBank : Prop :=
  ∀ (g : GenId) (idc : Bool) (k : SourceKind) (d f : Nat) (s : State), s.phase = .configured → s.cfg.gating = true →
    s.gt.gten = true → s.gt.pending = none → s.ft.get g = 0 → legalDivider g d = true → sourceFreq s.ft k = some f →
    f / d ≠ 0 →
    completesIn 6 (.claim g idc k d) s fun u =>
      u.gt =
        { s.gt with
          gens := s.gt.gens.set g
            { div := d
              ctl := { src := srcCode s.cfg k, genen := 1, idc := idc.toNat, oe := 1, divsel := 0, runstdby := 0 } }
          selGen := g, swrst := false, syncbusy := false }

/-- R222, R223, R224, R298: an ENABLE answers ILLEGAL CHANNEL_OUT_OF_RANGE for a channel the chip lacks, then ILLEGAL INVALID_HANDLE for
an unconfigured generator, then NONE CHANNEL_ALREADY_USED for a used channel, whatever generator it names; USAGE is unchanged and
no transaction is made. -/
def Obligations.EnableRefusesInOrder : Prop :=
  ∀ (ch : Nat) (g : GenId) (s : State), s.phase = .configured →
    (s.cfg.numChannels ≤ ch → answersAtOnce (.enable ch g) s 0x13000002 0 .configured) ∧
    (ch < s.cfg.numChannels → s.ft.get g = 0 → answersAtOnce (.enable ch g) s 0x14000002 0 .configured) ∧
    (ch < s.cfg.numChannels → s.ft.get g ≠ 0 → s.usage.getLsbD ch = true →
      answersAtOnce (.enable ch g) s 0x03000001 0 .configured)

/-- R151, R224: an ENABLE of an unused channel of the chip from a configured generator sets exactly its USAGE bit, makes SeqChan's two
transactions with SeqChan's values, and answers OK TOKEN (c, FT[g]); FT, PHASE, MODBUF and CALBUF keep their values. -/
def Obligations.EnableIssuesTheToken : Prop :=
  ∀ (ch : Nat) (g : GenId) (s : State), s.phase = .configured → quiet s = true → ch < s.cfg.numChannels → ch < 64 →
    s.ft.get g ≠ 0 → s.usage.getLsbD ch = false →
    completesIn 4 (.enable ch g) s fun u =>
      u.ft = s.ft ∧ (∀ c < 64, u.usage.getLsbD c = (s.usage.getLsbD c || decide (c = ch))) ∧ u.phase = .configured ∧
      u.rspLo = BitVec.ofNat 32 (0x20 + 0x10000 * ch) ∧ u.rspHi = s.ft.get g ∧
      u.modbuf = s.modbuf ∧ u.calbuf = s.calbuf ∧
      ∃ x, u.trace =
        [ .read .gtStatus x, .write .gtClkctrl [(.ident, ch), (.gen, g), (.clken, 1), (.other, 0)] ] ++ s.trace

/-- R42, R224, R345: an ENABLE sets its USAGE bit in its first micro-operation, before any transaction and before the response. -/
def Obligations.EnableMarksTheChannelFirst : Prop :=
  ∀ (ch : Nat) (g : GenId) (s : State), s.phase = .configured → ch < s.cfg.numChannels → ch < 64 → s.ft.get g ≠ 0 →
    s.usage.getLsbD ch = false →
    ∃ t, exec (.enable ch g) s = .next t ∧ ∀ a, ∃ u, stepWith (.ctc a) t = .next u ∧ u.usage.getLsbD ch = true ∧
      u.busy = true ∧ u.trace = s.trace ∧ u.ft = s.ft

/-- R269: with the module used and its gate open, an ENABLE that completes leaves CH[c] routed to g and enabled, and SEL_CH = c; nothing
else of the gating block changes. -/
def Obligations.EnableProgramsTheChannelBank : Prop :=
  ∀ (ch : Nat) (g : GenId) (s : State), s.phase = .configured → s.cfg.gating = true → s.gt.gten = true →
    s.gt.pending = none → ch < s.cfg.numChannels → ch < 64 → s.ft.get g ≠ 0 → s.usage.getLsbD ch = false →
    completesIn 4 (.enable ch g) s fun u =>
      u.gt =
        { s.gt with
          chans := s.gt.chans.setIfInBounds ch { gen := g, clken := 1 }, selCh := ch, swrst := false, syncbusy := false }

/-- R152, R227: STANDBY completes for every generator, configured or not, with SeqStby's five transactions in SeqStby's order, the
write carrying what was read but for RUNSTDBY, and answers OK EMPTY; FT, USAGE, PHASE and CALBUF keep their values. -/
def Obligations.StandbyCompletes : Prop :=
  ∀ (g : GenId) (en : Bool) (s : State), s.phase = .configured → quiet s = true →
    completesIn 6 (.standby g en) s fun u =>
      u.ft = s.ft ∧ u.usage = s.usage ∧ u.phase = .configured ∧ u.rspLo = 0 ∧ u.rspHi = 0 ∧ u.calbuf = s.calbuf ∧
      ∃ x₁ x₂ x₃ m, u.modbuf = x₂ ∧
        u.trace = [ .read .gtStatus x₃, .write .gtGenctrl m, .read .gtGenctrl x₂, .read .gtStatus x₁, .write8 .gtGenctrl g ]
          ++ s.trace ∧
        fieldOf m .runstdby = en.toNat ∧
        ∀ f ∈ regFields .gtGenctrl, f ≠ .runstdby → fieldOf m f = fieldOf x₂ f

/-- R268: with the module used and its gate open, and the values of bank g within their fields' widths (which the gating block's invariant
says of every bank), a STANDBY that completes leaves GEN[g] with RUNSTDBY = en and every other field of it, and every other bank, as
it was; SEL_GEN = g. -/
def Obligations.StandbyChangesOnlyRunstdby : Prop :=
  ∀ (g : GenId) (en : Bool) (s : State), s.phase = .configured → s.cfg.gating = true → s.gt.gten = true →
    s.gt.pending = none → ctlFits s.cfg (s.gt.gens.get g).ctl = true →
    completesIn 6 (.standby g en) s fun u =>
      u.gt =
        { s.gt with
          gens := s.gt.gens.set g
            { s.gt.gens.get g with ctl := { (s.gt.gens.get g).ctl with runstdby := en.toNat } }
          selGen := g, swrst := false, syncbusy := false }

/-! ### Bring-up -/

/-- R171 to R187: from POWER_ON, BRINGUP48 completes in its tabled number of micro-operations and transactions (one of them the
calibration read, which CALBUF keeps), each carrying its variant's values in the listing's order, records FT[0] = 48 000 000,
FT[1] = 32768 for the oscillator references only, and MULT_REF_CH as used, answers OK EMPTY and enters CONFIGURED. -/
def Obligations.Bringup48Completes : Prop :=
  ∀ (v : Variant) (s : State), s.phase = .powerOn → quiet s = true →
    let steps := match v with
      | .int32k => 39 | .ext32k => 40 | .usb => 30 | .openLoop => if s.cfg.openLoopStageMul then 30 else 29
    let txns := match v with
      | .int32k => 34 | .ext32k => 35 | .usb => 26 | .openLoop => if s.cfg.openLoopStageMul then 26 else 25
    completesIn steps (.bringup48 v) s fun u =>
      u.ft = (match v with
        | .int32k | .ext32k => (s.ft.set 0 48000000).set 1 32768
        | .usb | .openLoop => s.ft.set 0 48000000) ∧
      u.usage = s.usage ||| (1#64 <<< s.cfg.multRefCh) ∧ u.phase = .configured ∧ u.rspLo = 0 ∧ u.rspHi = 0 ∧
      calFits s.cfg u.calbuf = true ∧
      ∃ new, u.trace = new ++ s.trace ∧ carriesAll (bringup48Carries s.cfg v u.calbuf) new.reverse = true ∧
        new.length = txns + 1 ∧ new.countP (fun x => match x with | .cal _ => true | _ => false) = 1

/-- R184, R191, R192: from POWER_ON, BRINGUP8 completes in its 17 micro-operations and 15 transactions, each carrying its values in
the listing's order and none of them a calibration read, records FT[0] = 8 000 000 and nothing else of the tracker, answers OK EMPTY
and enters CONFIGURED; CALBUF keeps its value. -/
def Obligations.Bringup8Completes : Prop :=
  ∀ s : State, s.phase = .powerOn → quiet s = true →
    completesIn 17 .bringup8 s fun u =>
      u.ft = s.ft.set 0 8000000 ∧ u.usage = s.usage ∧ u.phase = .configured ∧ u.rspLo = 0 ∧ u.rspHi = 0 ∧
      u.calbuf = s.calbuf ∧
      ∃ new, u.trace = new ++ s.trace ∧ carriesAll (bringup8Carries s.cfg) new.reverse = true ∧
        new.length = 15 ∧ new.countP (fun x => match x with | .cal _ => true | _ => false) = 0

/-- R259 to R263, R265, R269: with the module used, a completed bring-up leaves the gate open, no update in flight, and every bank at
its power-on value but those its variant programs. -/
def Obligations.BringupProgramsTheGeneratorTree : Prop :=
  ∀ s : State, s.phase = .powerOn → s.cfg.gating = true → s.gt.pending = none → s.cfg.multRefCh < s.cfg.numChannels →
    let bank (k : SourceKind) (idc : Nat) : GenBank :=
      { div := 1, ctl := { src := srcCode s.cfg k, genen := 1, idc := idc, oe := 1, divsel := 0, runstdby := 0 } }
    let tree (gens : Vector GenBank 8) (chans : Vector ChanBank 64) (ch : Nat) : GtState :=
      { gten := true, gens := gens, chans := chans, selGen := 0, selCh := ch, swrst := false, syncbusy := false,
        pending := none }
    let fed := s.cfg.chPor.setIfInBounds s.cfg.multRefCh { gen := 1, clken := 1 }
    completesIn 39 (.bringup48 .int32k) s (fun u =>
      u.gt = tree ((s.cfg.genPor.set 1 (bank .int32k 0)).set 0 (bank .mult48m 1)) fed s.cfg.multRefCh) ∧
    completesIn 40 (.bringup48 .ext32k) s (fun u =>
      u.gt = tree ((s.cfg.genPor.set 1 (bank .ext32k 0)).set 0 (bank .mult48m 1)) fed s.cfg.multRefCh) ∧
    completesIn 30 (.bringup48 .usb) s (fun u => u.gt = tree (s.cfg.genPor.set 0 (bank .mult48m 1)) s.cfg.chPor 0) ∧
    completesIn (if s.cfg.openLoopStageMul then 30 else 29) (.bringup48 .openLoop) s (fun u =>
      u.gt = tree (s.cfg.genPor.set 0 (bank .mult48m 1)) s.cfg.chPor 0) ∧
    completesIn 17 .bringup8 s (fun u => u.gt = tree (s.cfg.genPor.set 0 (bank .rc8m 0)) s.cfg.chPor 0)

/-- R188: the order guarantees of BRINGUP48, each an operation that stands before every one it must precede. -/
def Obligations.Bringup48OrderGuarantees : Prop :=
  ∀ (c : Config) (v : Variant),
    comesBefore (writesReg .flashCtrl) (sourcesGen 0) (prog48 c v) = true ∧
    comesBefore (setsBit .busMask .gt) writesGt (prog48 c v) = true ∧
    (v = .int32k → comesBefore (pollsFor .oscStatus [(.int32kRdy, 1)]) (sourcesGen 1) (prog48 c v) = true) ∧
    (v = .ext32k → comesBefore (pollsFor .oscStatus [(.ext32kRdy, 1)]) (sourcesGen 1) (prog48 c v) = true) ∧
    (v = .int32k ∨ v = .ext32k →
      ∀ r ∈ [Reg.oscMultCtrl, .oscMultVal, .oscMultMul],
        comesBefore (sourcesGen 1) (writesReg r) (prog48 c v) = true ∧
        comesBefore (writesReg .gtClkctrl) (writesReg r) (prog48 c v) = true) ∧
    comesBefore (setsBit .oscMultCtrl .enable) (sourcesGen 0) (prog48 c v) = true ∧
    (let rest := (prog48 c v).dropWhile fun op => !setsBit .oscMultCtrl .enable op;
      comesBefore (pollsFor .oscStatus [(.multRdy, 1)]) (sourcesGen 0) rest = true ∧
      (v = .ext32k → comesBefore (pollsFor .oscStatus [(.multLockc, 1), (.multLockf, 1)]) (sourcesGen 0) rest = true)) ∧
    (∀ r ∈ [Reg.oscRc8m, .busCpudiv, .busAdiv, .busBdiv, .busCdiv],
      comesBefore (sourcesGen 0) (writesReg r) (prog48 c v) = true)

/-! ### The micro-operation machine -/

/-- R141, R148: the micro-program any command is issued with ends with one RESP and holds no other, keeps its polls' targets inside it,
and puts a completed sync poll between any GT write and the next. -/
def Obligations.EveryMicroProgramIsDisciplined : Prop :=
  ∀ (i : Instr) (s t : State), exec i s = .next t →
    (∃ ops p, t.prog = ops ++ [.resp p] ∧ ops.all (fun op => !isResp op) = true) ∧
    backsOk false t.prog = true ∧ syncOk false t.prog = true

/-- R75, R76, R181: in an instance that meets the conditions on its parameters, every value a command writes names a field of its
register and fits that field's width, whatever the command and the state. -/
def Obligations.EveryWriteFitsItsField : Prop :=
  ∀ (i : Instr) (s t : State), configWf s.cfg = true → exec i s = .next t → t.prog.all (writeFits s.cfg) = true

/-- R154, R187, R292, R293, R295: the register-port transactions of each micro-program when every poll holds at its first read; a
program that answers NONE, ILLEGAL or FATAL has none. -/
def Obligations.TransactionCounts : Prop :=
  (∀ c : Config, portCount (prog48 c .int32k) = 34 ∧ portCount (prog48 c .ext32k) = 35 ∧ portCount (prog48 c .usb) = 26 ∧
    portCount (prog48 c .openLoop) = (if c.openLoopStageMul then 26 else 25) ∧ portCount (prog8 c) = 15) ∧
  portCount seqReset = 3 ∧ portCount seqSync = 1 ∧
  (∀ (c : Config) (g : GenId) (d : Nat) (k : SourceKind) (idc : Bool), portCount (seqGen c g d k idc) = 4) ∧
  (∀ (ch : Nat) (g : GenId), portCount (seqChan ch g) = 2) ∧ (∀ (g : GenId) (en : Bool), portCount (seqStby g en) = 5) ∧
  (∀ c, portCount (noneProg c) = 0 ∧ portCount (illegalProg c) = 0 ∧ portCount (fatalProg c) = 0)

/-- R140, R142: what one CTC step can change. With BUSY = 0 it changes nothing; otherwise FT only by SETFT, USAGE only by SETUSE, the
response and BUSY, RSP_VALID and PHASE only by RESP, MODBUF only by RD, CALBUF only by CAL, the gating block only by a write to a GT
register or BUS.MASK; never CUR, PROG, the window registers the host writes, or DROP; and at most one transaction is made. -/
def Obligations.CtcStepFrame : Prop :=
  ∀ (a : Answer) (s t : State), ctcStep a s = .next t →
    (s.busy = false → t = s) ∧
    (t.cfg = s.cfg ∧ t.cur = s.cur ∧ t.prog = s.prog ∧ t.cmdLo = s.cmdLo ∧ t.cmdHi = s.cmdHi ∧ t.drop = s.drop ∧
      t.hostReply = s.hostReply ∧ t.agenda = s.agenda ∧ t.drawIx = s.drawIx) ∧
    (t.ft = s.ft ∨ ∃ g v, s.prog[s.mpc]? = some (.setft g v) ∧ t.ft = s.ft.set g v) ∧
    (t.usage = s.usage ∨ ∃ c, s.prog[s.mpc]? = some (.setuse c) ∧ t.usage = s.usage ||| (1#64 <<< c)) ∧
    ((t.rspLo = s.rspLo ∧ t.rspHi = s.rspHi ∧ t.rspValid = s.rspValid ∧ t.busy = s.busy ∧ t.phase = s.phase) ∨
      ∃ p, s.prog[s.mpc]? = some (.resp p) ∧ t.rspLo = respLo p ∧ t.rspHi = p.freq ∧ t.rspValid = true ∧ t.busy = false ∧
        t.phase = p.phase.getD s.phase) ∧
    (t.modbuf = s.modbuf ∨ ∃ r, s.prog[s.mpc]? = some (.rd r) ∧ t.trace = .read r t.modbuf :: s.trace) ∧
    (t.calbuf = s.calbuf ∨ (s.prog[s.mpc]? = some .cal ∧ t.trace = .cal t.calbuf :: s.trace)) ∧
    (t.gt = s.gt ∨ ∃ op, s.prog[s.mpc]? = some op ∧ (writesGt op = true ∨ writesReg .busMask op = true)) ∧
    (t.trace = s.trace ∨ ∃ x, t.trace = x :: s.trace)

/-- R142, R143: a poll is one read; MPC goes on when its predicate holds of the value read, and back by its `back` when not; besides
MPC and the transaction made, nothing changes. -/
def Obligations.PollGoesOnOrBack : Prop :=
  ∀ (s : State) (a : Answer) (r : Reg) (pred : List (RegField × Nat)) (back : Nat), s.busy = true →
    s.prog[s.mpc]? = some (.poll r pred back) →
    ∃ x, stepWith (.ctc a) s = .next
      { s with
        trace := .read r x :: s.trace,
        mpc := if ∀ p ∈ pred, fieldOf x p.1 = p.2 then s.mpc + 1 else s.mpc - back }

/-- R79, R142, R144: a Modify is two transactions: the read fills MODBUF, and the write carries the listed field's value and every other
field, OTHER included, as read, whatever ENV does between them. -/
def Obligations.ModifyKeepsUnlistedFields : Prop :=
  ∀ (s : State) (a b : Answer) (r : Reg) (f : RegField) (v : Nat), s.busy = true → quiet s = true → f ∈ regFields r →
    s.prog[s.mpc]? = some (.rd r) → s.prog[s.mpc + 1]? = some (.wrm r [(f, .lit v)]) →
    ∃ x m t u, stepWith (.ctc a) s = .next t ∧ t.modbuf = x ∧ stepWith (.ctc b) t = .next u ∧
      u.trace = .write r m :: .read r x :: s.trace ∧ u.mpc = s.mpc + 2 ∧ fieldOf m f = v ∧
      ∀ f' ∈ regFields r, f' ≠ f → fieldOf m f' = fieldOf x f'

/-- R75: a full write carries its listed values, and 0 in every other field of the register, OTHER included. -/
def Obligations.FullWriteZeroesUnlistedFields : Prop :=
  ∀ (s : State) (a : Answer) (r : Reg) (fs : List (RegField × Val)), s.busy = true → quiet s = true →
    s.prog[s.mpc]? = some (.wr r fs) →
    ∃ m t, stepWith (.ctc a) s = .next t ∧ t.trace = .write r m :: s.trace ∧ t.mpc = s.mpc + 1 ∧ m.map Prod.fst = regFields r ∧
      (∀ f ∈ regFields r, fieldOf m f = match fs.lookup f with | some e => evalVal s.calbuf e | none => 0) ∧
      t.ft = s.ft ∧ t.usage = s.usage ∧ t.modbuf = s.modbuf ∧ t.calbuf = s.calbuf

/-- R81, R142: CAL stores the two integers of one calibration read, each within its width. -/
def Obligations.CalStoresTheCalibration : Prop :=
  ∀ (s : State) (a : Answer), s.busy = true → s.prog[s.mpc]? = some .cal →
    ∃ c, stepWith (.ctc a) s = .next { s with calbuf := c, trace := .cal c :: s.trace, mpc := s.mpc + 1 } ∧
      c.coarse < 2 ^ s.cfg.calCoarseW ∧ c.fine < 2 ^ s.cfg.calFineW

/-- R106, R145: a response's fields stand where the response word has them, every other bit is 0, and PHASE changes only when the
response gives one. -/
def Obligations.ResponseWordLayout : Prop :=
  ∀ (s : State) (a : Answer) (p : Resp), s.busy = true → s.prog[s.mpc]? = some (.resp p) →
    ∃ t, stepWith (.ctc a) s = .next t ∧ t.rspHi = p.freq ∧ t.rspValid = true ∧ t.busy = false ∧
      t.phase = p.phase.getD s.phase ∧ t.rspLo.extractLsb' 0 4 = statusCode p.status ∧ t.rspLo.extractLsb' 4 4 = kindCode p.kind ∧
      (t.rspLo.extractLsb' 8 3).toNat = p.gen ∧ t.rspLo.extractLsb' 11 5 = 0 ∧ t.rspLo.extractLsb' 16 6 = p.ch ∧
      t.rspLo.extractLsb' 22 2 = 0 ∧ t.rspLo.extractLsb' 24 8 = causeCode p.cause

/-! ### The gating block -/

/-- R253, R254, R255, R257: with the gate open and nothing in flight, each write of the table R255, full or 8-bit, records its update with
SYNCBUSY = 1 and no bank changed, a GT.CTRL write of SWRST = 0 and any write to GT.STATUS having no effect; while the gate is closed
and nothing is in flight a GT write has no effect; and while an update is in flight any GT write is the fault
GT_WRITE_DURING_SYNC. That the fault wins where the gate is closed as well is the model's choice (assumption 12). (`free` and `gate`
are the free values of assumption 13, and no clause depends on them.) -/
def Obligations.GtWriteMeetsTheSynchronizer : Prop :=
  ∀ (m : FieldMap) (v : Nat) (free : Option Update) (gate : Bool) (g : GtState),
    (∀ r, isGt r = true → g.pending ≠ none →
      gtWrite r m g = .error .gtWriteDuringSync ∧ gtWrite8 r v free gate g = .error .gtWriteDuringSync) ∧
    (∀ r, isGt r = true → g.pending = none → g.gten = false → gtWrite r m g = .ok g ∧ gtWrite8 r v free gate g = .ok g) ∧
    (g.pending = none → g.gten = true →
      let recorded (u : Update) : Except Fault GtState :=
        .ok { g with pending := some u, syncbusy := true, swrst := decide (u = .reset) }
      (fieldOf m .swrst ≠ 0 → gtWrite .gtCtrl m g = recorded .reset) ∧
      (fieldOf m .swrst = 0 → gtWrite .gtCtrl m g = .ok g) ∧
      gtWrite .gtStatus m g = .ok g ∧ gtWrite8 .gtStatus v free gate g = .ok g ∧
      gtWrite .gtGendiv m g = recorded (.div (fieldOf m .ident) (fieldOf m .div)) ∧
      gtWrite .gtGenctrl m g = recorded (.genctrl (fieldOf m .ident)
        { src := fieldOf m .src, genen := fieldOf m .genen, idc := fieldOf m .idc, oe := fieldOf m .oe,
          divsel := fieldOf m .divsel, runstdby := fieldOf m .runstdby }) ∧
      gtWrite .gtClkctrl m g = recorded (.chan (fieldOf m .ident) (fieldOf m .gen) (fieldOf m .clken)) ∧
      gtWrite8 .gtGenctrl v free gate g = recorded (.selgen v) ∧
      gtWrite8 .gtClkctrl v free gate g = recorded (.selch v))

/-- R258, R259, R260, R261, R262, R263, R264: GTSYNC applies the update in flight and clears PENDING, SYNCBUSY and SWRST. -/
def Obligations.GtSyncAppliesTheUpdate : Prop :=
  ∀ (s : State),
    let done (g : GtState) : State := { s with gt := { g with pending := none, syncbusy := false, swrst := false } }
    (s.gt.pending = some .reset → stepWith .gtsync s = .next
      (done { s.gt with gens := s.cfg.genPor, chans := s.cfg.chPor, selGen := 0, selCh := 0 })) ∧
    (∀ (i : GenId) (v : Nat), s.gt.pending = some (.div i v) → stepWith .gtsync s = .next
      (done { s.gt with gens := s.gt.gens.set i { s.gt.gens.get i with
        div := v % (if i = 1 then 2 ^ 16 else if i = 2 then 2 ^ 5 else 2 ^ 8) } })) ∧
    (∀ (i : Nat) (v : Nat), 8 ≤ i → s.gt.pending = some (.div i v) → stepWith .gtsync s = .next (done s.gt)) ∧
    (∀ (i : GenId) (b : GenCtl), s.gt.pending = some (.genctrl i b) → stepWith .gtsync s = .next
      (done { s.gt with gens := s.gt.gens.set i { s.gt.gens.get i with ctl := b }, selGen := i })) ∧
    (∀ (i : Nat) (b : GenCtl), 8 ≤ i → s.gt.pending = some (.genctrl i b) → stepWith .gtsync s = .next (done s.gt)) ∧
    (∀ v : Nat, s.gt.pending = some (.selgen v) → stepWith .gtsync s = .next
      (done { s.gt with selGen := if h : v % 16 < 8 then ⟨v % 16, h⟩ else s.gt.selGen })) ∧
    (∀ c k e : Nat, s.gt.pending = some (.chan c k e) → stepWith .gtsync s = .next
      (done (if c < s.cfg.numChannels then
        { s.gt with chans := s.gt.chans.setIfInBounds c { gen := k, clken := e }, selCh := c } else s.gt))) ∧
    (∀ v : Nat, s.gt.pending = some (.selch v) → stepWith .gtsync s = .next
      (done { s.gt with selCh := if v % 64 < s.cfg.numChannels then v % 64 else s.gt.selCh }))

/-- R78, R256, R265: what a read shows with the module used: SYNCBUSY, SWRST and the selected banks as they are when the gate is open
(the banks only while nothing is in flight, and if their values fit their fields, which the gating block's invariant says of every
bank), the gate itself always, and every field within its width. -/
def Obligations.GtReadsShowTheirState : Prop :=
  ∀ (s : State) (a : Answer), s.cfg.gating = true →
    (∀ r, mapFits s.cfg r (readReg r a s) = true) ∧
    fieldOf (readReg .busMask a s) .gt = s.gt.gten.toNat ∧
    (s.gt.gten = true →
      fieldOf (readReg .gtStatus a s) .syncbusy = s.gt.syncbusy.toNat ∧
      fieldOf (readReg .gtCtrl a s) .swrst = s.gt.swrst.toNat ∧
      (s.gt.syncbusy = false →
        fieldOf (readReg .gtGenctrl a s) .ident = s.gt.selGen ∧
        (ctlFits s.cfg (s.gt.gens.get s.gt.selGen).ctl = true →
        fieldOf (readReg .gtGenctrl a s) .src = (s.gt.gens.get s.gt.selGen).ctl.src ∧
        fieldOf (readReg .gtGenctrl a s) .genen = (s.gt.gens.get s.gt.selGen).ctl.genen ∧
        fieldOf (readReg .gtGenctrl a s) .idc = (s.gt.gens.get s.gt.selGen).ctl.idc ∧
        fieldOf (readReg .gtGenctrl a s) .oe = (s.gt.gens.get s.gt.selGen).ctl.oe ∧
        fieldOf (readReg .gtGenctrl a s) .divsel = (s.gt.gens.get s.gt.selGen).ctl.divsel ∧
        fieldOf (readReg .gtGenctrl a s) .runstdby = (s.gt.gens.get s.gt.selGen).ctl.runstdby) ∧
        ∀ h : s.gt.selCh < 64, fieldOf (readReg .gtClkctrl a s) .ident = s.gt.selCh ∧
          (chanFits s.cfg s.gt.chans[s.gt.selCh] = true → fieldOf (readReg .gtClkctrl a s) .gen = s.gt.chans[s.gt.selCh].gen ∧
          fieldOf (readReg .gtClkctrl a s) .clken = s.gt.chans[s.gt.selCh].clken)))

/-! ### Invariants and whole-machine rules -/

/-- The instance's parameters never change (the model's form of R9 to R12). -/
def Obligations.StepKeepsTheInstance : Prop :=
  ∀ s t : State, step s = .next t → t.cfg = s.cfg

/-- The tracker's invariant holds after reset. -/
def Obligations.ResetHasTheTrackerInvariant : Prop := TrackerInv State.reset

/-- R23, R25, R49: every step keeps the tracker's invariant. (R49's second item is stated for POWER_ON until a running bring-up writes its
record, R186; from there to its RESP the invariant says that FT and USAGE are what the record has written so far: assumption 9.) -/
def Obligations.StepKeepsTheTrackerInvariant : Prop :=
  ∀ s t : State, TrackerInv s → step s = .next t → TrackerInv t

/-- The gating block's invariant holds after reset. -/
def Obligations.ResetHasTheGatingInvariant : Prop := GateInv State.reset

/-- R75, R78, R250, R251: every step keeps the gating block's invariant: its flags say what is in flight, and every value it holds, and
every value the port carries, is within its width. -/
def Obligations.StepKeepsTheGatingInvariant : Prop :=
  ∀ s t : State, GateInv s → step s = .next t → GateInv t

/-- The sync discipline's invariant holds after reset. -/
def Obligations.ResetHasTheSyncInvariant : Prop := SyncInv State.reset

/-- R148, R267, R334: while no block reset strikes an update in flight (hazard HZ10), every step keeps the sync discipline, and the only
ways a step can stop are the HOST's own: a bus error, or an access outside the window. So no command ever reaches
GT_WRITE_DURING_SYNC. -/
def Obligations.NoGtWriteDuringSync : Prop :=
  ∀ s : State, SyncInv s → (nextTurn s = .blockReset → s.gt.pending = none) →
    (∃ t, step s = .next t ∧ SyncInv t) ∨ (∃ k, step s = .fault (.hostBusError k)) ∨ step s = .refused .outsideWindow

/-- R23: a USAGE bit, once set, is cleared by no step but a reset. -/
def Obligations.UsageOnlyGrows : Prop :=
  ∀ s t : State, isResetTurn (nextTurn s) = false → step s = .next t →
    ∀ c, s.usage.getLsbD c = true → t.usage.getLsbD c = true

/-- R21, R335: no step but a reset rewrites a frequency that is not 0, in a state with the tracker's invariant. -/
def Obligations.ConfiguredFrequencyIsNeverRewritten : Prop :=
  ∀ s t : State, TrackerInv s → isResetTurn (nextTurn s) = false → step s = .next t →
    ∀ g, s.ft.get g ≠ 0 → t.ft.get g = s.ft.get g

/-- R25: PHASE changes only from POWER_ON to CONFIGURED, when a BRINGUP48 or BRINGUP8 command completes, from CONFIGURED to HALTED, when a
CLAIM answers FATAL, and to POWER_ON on a reset. -/
def Obligations.PhaseTransitions : Prop :=
  ∀ s t : State, TrackerInv s → step s = .next t →
    (isResetTurn (nextTurn s) = true ∧ t.phase = .powerOn) ∨ t.phase = s.phase ∨
    (s.phase = .powerOn ∧ t.phase = .configured ∧ s.busy = true ∧ t.busy = false ∧ t.rspLo = 0 ∧
      (fieldOp s.cur = 1 ∨ fieldOp s.cur = 2)) ∨
    (s.phase = .configured ∧ t.phase = .halted ∧ s.busy = true ∧ t.busy = false ∧ t.rspLo.extractLsb' 0 4 = 3 ∧
      fieldOp s.cur = 4)

/-- R297, R315: in HALTED, halt_req is 1 and no step but a reset changes PHASE, FT, USAGE, the response or CMD_LO, starts a command, or
makes a transaction. -/
def Obligations.HaltedStaysHalted : Prop :=
  ∀ s t : State, TrackerInv s → s.phase = .halted → isResetTurn (nextTurn s) = false → step s = .next t →
    haltReq s = true ∧ t.phase = .halted ∧ t.busy = false ∧ t.ft = s.ft ∧ t.usage = s.usage ∧ t.rspLo = s.rspLo ∧ t.rspHi = s.rspHi ∧
    t.rspValid = s.rspValid ∧ t.cmdLo = s.cmdLo ∧ t.trace = s.trace

/-- R340, R341: under `ENV_FAIR`, with no reset and nothing that stops the run, every issued command ends with its response,
whatever HOST does meanwhile. -/
def Obligations.FairCommandsEnd : Prop :=
  ∀ (i : Instr) (s t : State) (sched : Nat → Turn), exec i s = .next t → EnvFair sched t →
    (∀ n, isResetTurn (sched n) = false) → (∀ n, stateAt sched t n ≠ none) →
    ∃ n u, stateAt sched t n = some u ∧ u.busy = false ∧ u.rspValid = true

/-- R315: no value ENV returns, and no interleaving of the CTC's and GTSYNC's turns, changes what a command does to the host's view: two
runs of one issued command that both complete agree on the response, FT, USAGE and PHASE. -/
def Obligations.EnvironmentCannotChangeTheAnswer : Prop :=
  ∀ (i : Instr) (s t u₁ u₂ : State) (ts₁ ts₂ : List Turn), exec i s = .next t →
    (∀ x ∈ ts₁, isWorkTurn x = true) → (∀ x ∈ ts₂, isWorkTurn x = true) →
    runTurns ts₁ t = .next u₁ → runTurns ts₂ t = .next u₂ → u₁.busy = false → u₂.busy = false →
    u₁.rspLo = u₂.rspLo ∧ u₁.rspHi = u₂.rspHi ∧ u₁.ft = u₂.ft ∧ u₁.usage = u₂.usage ∧ u₁.phase = u₂.phase
end

