-- ==== Sys2Proof/Laws/State.lean ====
section
/-! SUPPORT. One lemma per field per update of the state, each true by unfolding the update once. -/

namespace Sys2Proof.Machine

/-! ### setFt -/

@[simp] theorem setFt_cfg (g : GenId) (v : Word) (s : State) : (setFt g v s).cfg = s.cfg := rfl
@[simp] theorem setFt_ft (g : GenId) (v : Word) (s : State) : (setFt g v s).ft = s.ft.set g v := rfl
@[simp] theorem setFt_usage (g : GenId) (v : Word) (s : State) : (setFt g v s).usage = s.usage := rfl
@[simp] theorem setFt_phase (g : GenId) (v : Word) (s : State) : (setFt g v s).phase = s.phase := rfl
@[simp] theorem setFt_busy (g : GenId) (v : Word) (s : State) : (setFt g v s).busy = s.busy := rfl
@[simp] theorem setFt_cur (g : GenId) (v : Word) (s : State) : (setFt g v s).cur = s.cur := rfl
@[simp] theorem setFt_prog (g : GenId) (v : Word) (s : State) : (setFt g v s).prog = s.prog := rfl
@[simp] theorem setFt_mpc (g : GenId) (v : Word) (s : State) : (setFt g v s).mpc = s.mpc := rfl
@[simp] theorem setFt_modbuf (g : GenId) (v : Word) (s : State) : (setFt g v s).modbuf = s.modbuf := rfl
@[simp] theorem setFt_calbuf (g : GenId) (v : Word) (s : State) : (setFt g v s).calbuf = s.calbuf := rfl
@[simp] theorem setFt_cmdLo (g : GenId) (v : Word) (s : State) : (setFt g v s).cmdLo = s.cmdLo := rfl
@[simp] theorem setFt_cmdHi (g : GenId) (v : Word) (s : State) : (setFt g v s).cmdHi = s.cmdHi := rfl
@[simp] theorem setFt_rspLo (g : GenId) (v : Word) (s : State) : (setFt g v s).rspLo = s.rspLo := rfl
@[simp] theorem setFt_rspHi (g : GenId) (v : Word) (s : State) : (setFt g v s).rspHi = s.rspHi := rfl
@[simp] theorem setFt_rspValid (g : GenId) (v : Word) (s : State) : (setFt g v s).rspValid = s.rspValid := rfl
@[simp] theorem setFt_drop (g : GenId) (v : Word) (s : State) : (setFt g v s).drop = s.drop := rfl
@[simp] theorem setFt_gt (g : GenId) (v : Word) (s : State) : (setFt g v s).gt = s.gt := rfl
@[simp] theorem setFt_hostReply (g : GenId) (v : Word) (s : State) : (setFt g v s).hostReply = s.hostReply := rfl
@[simp] theorem setFt_trace (g : GenId) (v : Word) (s : State) : (setFt g v s).trace = s.trace := rfl
@[simp] theorem setFt_agenda (g : GenId) (v : Word) (s : State) : (setFt g v s).agenda = s.agenda := rfl
@[simp] theorem setFt_drawIx (g : GenId) (v : Word) (s : State) : (setFt g v s).drawIx = s.drawIx := rfl

/-! ### setUsage -/

@[simp] theorem setUsage_cfg (c : Nat) (s : State) : (setUsage c s).cfg = s.cfg := rfl
@[simp] theorem setUsage_ft (c : Nat) (s : State) : (setUsage c s).ft = s.ft := rfl
@[simp] theorem setUsage_usage (c : Nat) (s : State) : (setUsage c s).usage = s.usage ||| (1#64 <<< c) := rfl
@[simp] theorem setUsage_phase (c : Nat) (s : State) : (setUsage c s).phase = s.phase := rfl
@[simp] theorem setUsage_busy (c : Nat) (s : State) : (setUsage c s).busy = s.busy := rfl
@[simp] theorem setUsage_cur (c : Nat) (s : State) : (setUsage c s).cur = s.cur := rfl
@[simp] theorem setUsage_prog (c : Nat) (s : State) : (setUsage c s).prog = s.prog := rfl
@[simp] theorem setUsage_mpc (c : Nat) (s : State) : (setUsage c s).mpc = s.mpc := rfl
@[simp] theorem setUsage_modbuf (c : Nat) (s : State) : (setUsage c s).modbuf = s.modbuf := rfl
@[simp] theorem setUsage_calbuf (c : Nat) (s : State) : (setUsage c s).calbuf = s.calbuf := rfl
@[simp] theorem setUsage_cmdLo (c : Nat) (s : State) : (setUsage c s).cmdLo = s.cmdLo := rfl
@[simp] theorem setUsage_cmdHi (c : Nat) (s : State) : (setUsage c s).cmdHi = s.cmdHi := rfl
@[simp] theorem setUsage_rspLo (c : Nat) (s : State) : (setUsage c s).rspLo = s.rspLo := rfl
@[simp] theorem setUsage_rspHi (c : Nat) (s : State) : (setUsage c s).rspHi = s.rspHi := rfl
@[simp] theorem setUsage_rspValid (c : Nat) (s : State) : (setUsage c s).rspValid = s.rspValid := rfl
@[simp] theorem setUsage_drop (c : Nat) (s : State) : (setUsage c s).drop = s.drop := rfl
@[simp] theorem setUsage_gt (c : Nat) (s : State) : (setUsage c s).gt = s.gt := rfl
@[simp] theorem setUsage_hostReply (c : Nat) (s : State) : (setUsage c s).hostReply = s.hostReply := rfl
@[simp] theorem setUsage_trace (c : Nat) (s : State) : (setUsage c s).trace = s.trace := rfl
@[simp] theorem setUsage_agenda (c : Nat) (s : State) : (setUsage c s).agenda = s.agenda := rfl
@[simp] theorem setUsage_drawIx (c : Nat) (s : State) : (setUsage c s).drawIx = s.drawIx := rfl

/-! ### advance -/

@[simp] theorem advance_cfg (s : State) : (advance s).cfg = s.cfg := rfl
@[simp] theorem advance_ft (s : State) : (advance s).ft = s.ft := rfl
@[simp] theorem advance_usage (s : State) : (advance s).usage = s.usage := rfl
@[simp] theorem advance_phase (s : State) : (advance s).phase = s.phase := rfl
@[simp] theorem advance_busy (s : State) : (advance s).busy = s.busy := rfl
@[simp] theorem advance_cur (s : State) : (advance s).cur = s.cur := rfl
@[simp] theorem advance_prog (s : State) : (advance s).prog = s.prog := rfl
@[simp] theorem advance_mpc (s : State) : (advance s).mpc = s.mpc + 1 := rfl
@[simp] theorem advance_modbuf (s : State) : (advance s).modbuf = s.modbuf := rfl
@[simp] theorem advance_calbuf (s : State) : (advance s).calbuf = s.calbuf := rfl
@[simp] theorem advance_cmdLo (s : State) : (advance s).cmdLo = s.cmdLo := rfl
@[simp] theorem advance_cmdHi (s : State) : (advance s).cmdHi = s.cmdHi := rfl
@[simp] theorem advance_rspLo (s : State) : (advance s).rspLo = s.rspLo := rfl
@[simp] theorem advance_rspHi (s : State) : (advance s).rspHi = s.rspHi := rfl
@[simp] theorem advance_rspValid (s : State) : (advance s).rspValid = s.rspValid := rfl
@[simp] theorem advance_drop (s : State) : (advance s).drop = s.drop := rfl
@[simp] theorem advance_gt (s : State) : (advance s).gt = s.gt := rfl
@[simp] theorem advance_hostReply (s : State) : (advance s).hostReply = s.hostReply := rfl
@[simp] theorem advance_trace (s : State) : (advance s).trace = s.trace := rfl
@[simp] theorem advance_agenda (s : State) : (advance s).agenda = s.agenda := rfl
@[simp] theorem advance_drawIx (s : State) : (advance s).drawIx = s.drawIx := rfl

/-! ### record -/

@[simp] theorem record_cfg (t : Txn) (s : State) : (record t s).cfg = s.cfg := rfl
@[simp] theorem record_ft (t : Txn) (s : State) : (record t s).ft = s.ft := rfl
@[simp] theorem record_usage (t : Txn) (s : State) : (record t s).usage = s.usage := rfl
@[simp] theorem record_phase (t : Txn) (s : State) : (record t s).phase = s.phase := rfl
@[simp] theorem record_busy (t : Txn) (s : State) : (record t s).busy = s.busy := rfl
@[simp] theorem record_cur (t : Txn) (s : State) : (record t s).cur = s.cur := rfl
@[simp] theorem record_prog (t : Txn) (s : State) : (record t s).prog = s.prog := rfl
@[simp] theorem record_mpc (t : Txn) (s : State) : (record t s).mpc = s.mpc := rfl
@[simp] theorem record_modbuf (t : Txn) (s : State) : (record t s).modbuf = s.modbuf := rfl
@[simp] theorem record_calbuf (t : Txn) (s : State) : (record t s).calbuf = s.calbuf := rfl
@[simp] theorem record_cmdLo (t : Txn) (s : State) : (record t s).cmdLo = s.cmdLo := rfl
@[simp] theorem record_cmdHi (t : Txn) (s : State) : (record t s).cmdHi = s.cmdHi := rfl
@[simp] theorem record_rspLo (t : Txn) (s : State) : (record t s).rspLo = s.rspLo := rfl
@[simp] theorem record_rspHi (t : Txn) (s : State) : (record t s).rspHi = s.rspHi := rfl
@[simp] theorem record_rspValid (t : Txn) (s : State) : (record t s).rspValid = s.rspValid := rfl
@[simp] theorem record_drop (t : Txn) (s : State) : (record t s).drop = s.drop := rfl
@[simp] theorem record_gt (t : Txn) (s : State) : (record t s).gt = s.gt := rfl
@[simp] theorem record_hostReply (t : Txn) (s : State) : (record t s).hostReply = s.hostReply := rfl
@[simp] theorem record_trace (t : Txn) (s : State) : (record t s).trace = t :: s.trace := rfl
@[simp] theorem record_agenda (t : Txn) (s : State) : (record t s).agenda = s.agenda := rfl
@[simp] theorem record_drawIx (t : Txn) (s : State) : (record t s).drawIx = s.drawIx := rfl

/-! ### issue -/

@[simp] theorem issue_cfg (p : List MicroOp) (s : State) : (issue p s).cfg = s.cfg := rfl
@[simp] theorem issue_ft (p : List MicroOp) (s : State) : (issue p s).ft = s.ft := rfl
@[simp] theorem issue_usage (p : List MicroOp) (s : State) : (issue p s).usage = s.usage := rfl
@[simp] theorem issue_phase (p : List MicroOp) (s : State) : (issue p s).phase = s.phase := rfl
@[simp] theorem issue_busy (p : List MicroOp) (s : State) : (issue p s).busy = true := rfl
@[simp] theorem issue_cur (p : List MicroOp) (s : State) : (issue p s).cur = s.cmdHi ++ s.cmdLo := rfl
@[simp] theorem issue_prog (p : List MicroOp) (s : State) : (issue p s).prog = p := rfl
@[simp] theorem issue_mpc (p : List MicroOp) (s : State) : (issue p s).mpc = 0 := rfl
@[simp] theorem issue_modbuf (p : List MicroOp) (s : State) : (issue p s).modbuf = s.modbuf := rfl
@[simp] theorem issue_calbuf (p : List MicroOp) (s : State) : (issue p s).calbuf = s.calbuf := rfl
@[simp] theorem issue_cmdLo (p : List MicroOp) (s : State) : (issue p s).cmdLo = s.cmdLo := rfl
@[simp] theorem issue_cmdHi (p : List MicroOp) (s : State) : (issue p s).cmdHi = s.cmdHi := rfl
@[simp] theorem issue_rspLo (p : List MicroOp) (s : State) : (issue p s).rspLo = s.rspLo := rfl
@[simp] theorem issue_rspHi (p : List MicroOp) (s : State) : (issue p s).rspHi = s.rspHi := rfl
@[simp] theorem issue_rspValid (p : List MicroOp) (s : State) : (issue p s).rspValid = false := rfl
@[simp] theorem issue_drop (p : List MicroOp) (s : State) : (issue p s).drop = s.drop := rfl
@[simp] theorem issue_gt (p : List MicroOp) (s : State) : (issue p s).gt = s.gt := rfl
@[simp] theorem issue_hostReply (p : List MicroOp) (s : State) : (issue p s).hostReply = s.hostReply := rfl
@[simp] theorem issue_trace (p : List MicroOp) (s : State) : (issue p s).trace = s.trace := rfl
@[simp] theorem issue_agenda (p : List MicroOp) (s : State) : (issue p s).agenda = s.agenda := rfl
@[simp] theorem issue_drawIx (p : List MicroOp) (s : State) : (issue p s).drawIx = s.drawIx := rfl

/-! ### respond -/

@[simp] theorem respond_cfg (p : Resp) (s : State) : (respond p s).cfg = s.cfg := rfl
@[simp] theorem respond_ft (p : Resp) (s : State) : (respond p s).ft = s.ft := rfl
@[simp] theorem respond_usage (p : Resp) (s : State) : (respond p s).usage = s.usage := rfl
@[simp] theorem respond_phase (p : Resp) (s : State) : (respond p s).phase = p.phase.getD s.phase := rfl
@[simp] theorem respond_busy (p : Resp) (s : State) : (respond p s).busy = false := rfl
@[simp] theorem respond_cur (p : Resp) (s : State) : (respond p s).cur = s.cur := rfl
@[simp] theorem respond_prog (p : Resp) (s : State) : (respond p s).prog = s.prog := rfl
@[simp] theorem respond_mpc (p : Resp) (s : State) : (respond p s).mpc = s.mpc := rfl
@[simp] theorem respond_modbuf (p : Resp) (s : State) : (respond p s).modbuf = s.modbuf := rfl
@[simp] theorem respond_calbuf (p : Resp) (s : State) : (respond p s).calbuf = s.calbuf := rfl
@[simp] theorem respond_cmdLo (p : Resp) (s : State) : (respond p s).cmdLo = s.cmdLo := rfl
@[simp] theorem respond_cmdHi (p : Resp) (s : State) : (respond p s).cmdHi = s.cmdHi := rfl
@[simp] theorem respond_rspLo (p : Resp) (s : State) : (respond p s).rspLo = respLo p := rfl
@[simp] theorem respond_rspHi (p : Resp) (s : State) : (respond p s).rspHi = respHi p := rfl
@[simp] theorem respond_rspValid (p : Resp) (s : State) : (respond p s).rspValid = true := rfl
@[simp] theorem respond_drop (p : Resp) (s : State) : (respond p s).drop = s.drop := rfl
@[simp] theorem respond_gt (p : Resp) (s : State) : (respond p s).gt = s.gt := rfl
@[simp] theorem respond_hostReply (p : Resp) (s : State) : (respond p s).hostReply = s.hostReply := rfl
@[simp] theorem respond_trace (p : Resp) (s : State) : (respond p s).trace = s.trace := rfl
@[simp] theorem respond_agenda (p : Resp) (s : State) : (respond p s).agenda = s.agenda := rfl
@[simp] theorem respond_drawIx (p : Resp) (s : State) : (respond p s).drawIx = s.drawIx := rfl

/-! ### blockReset -/

@[simp] theorem blockReset_cfg (s : State) : (blockReset s).cfg = s.cfg := rfl
@[simp] theorem blockReset_ft (s : State) : (blockReset s).ft = Vector.replicate 8 0 := rfl
@[simp] theorem blockReset_usage (s : State) : (blockReset s).usage = 0 := rfl
@[simp] theorem blockReset_phase (s : State) : (blockReset s).phase = .powerOn := rfl
@[simp] theorem blockReset_busy (s : State) : (blockReset s).busy = false := rfl
@[simp] theorem blockReset_cur (s : State) : (blockReset s).cur = 0 := rfl
@[simp] theorem blockReset_prog (s : State) : (blockReset s).prog = [] := rfl
@[simp] theorem blockReset_mpc (s : State) : (blockReset s).mpc = 0 := rfl
@[simp] theorem blockReset_modbuf (s : State) : (blockReset s).modbuf = [] := rfl
@[simp] theorem blockReset_calbuf (s : State) : (blockReset s).calbuf = { coarse := 0, fine := 0 } := rfl
@[simp] theorem blockReset_cmdLo (s : State) : (blockReset s).cmdLo = 0 := rfl
@[simp] theorem blockReset_cmdHi (s : State) : (blockReset s).cmdHi = 0 := rfl
@[simp] theorem blockReset_rspLo (s : State) : (blockReset s).rspLo = 0 := rfl
@[simp] theorem blockReset_rspHi (s : State) : (blockReset s).rspHi = 0 := rfl
@[simp] theorem blockReset_rspValid (s : State) : (blockReset s).rspValid = false := rfl
@[simp] theorem blockReset_drop (s : State) : (blockReset s).drop = false := rfl
@[simp] theorem blockReset_gt (s : State) : (blockReset s).gt = s.gt := rfl
@[simp] theorem blockReset_hostReply (s : State) : (blockReset s).hostReply = s.hostReply := rfl
@[simp] theorem blockReset_trace (s : State) : (blockReset s).trace = s.trace := rfl
@[simp] theorem blockReset_agenda (s : State) : (blockReset s).agenda = s.agenda := rfl
@[simp] theorem blockReset_drawIx (s : State) : (blockReset s).drawIx = s.drawIx := rfl

/-! ### powerOn -/

@[simp] theorem powerOn_cfg (s : State) : (powerOn s).cfg = s.cfg := rfl
@[simp] theorem powerOn_ft (s : State) : (powerOn s).ft = Vector.replicate 8 0 := rfl
@[simp] theorem powerOn_usage (s : State) : (powerOn s).usage = 0 := rfl
@[simp] theorem powerOn_phase (s : State) : (powerOn s).phase = .powerOn := rfl
@[simp] theorem powerOn_busy (s : State) : (powerOn s).busy = false := rfl
@[simp] theorem powerOn_cur (s : State) : (powerOn s).cur = 0 := rfl
@[simp] theorem powerOn_prog (s : State) : (powerOn s).prog = [] := rfl
@[simp] theorem powerOn_mpc (s : State) : (powerOn s).mpc = 0 := rfl
@[simp] theorem powerOn_modbuf (s : State) : (powerOn s).modbuf = [] := rfl
@[simp] theorem powerOn_calbuf (s : State) : (powerOn s).calbuf = { coarse := 0, fine := 0 } := rfl
@[simp] theorem powerOn_cmdLo (s : State) : (powerOn s).cmdLo = 0 := rfl
@[simp] theorem powerOn_cmdHi (s : State) : (powerOn s).cmdHi = 0 := rfl
@[simp] theorem powerOn_rspLo (s : State) : (powerOn s).rspLo = 0 := rfl
@[simp] theorem powerOn_rspHi (s : State) : (powerOn s).rspHi = 0 := rfl
@[simp] theorem powerOn_rspValid (s : State) : (powerOn s).rspValid = false := rfl
@[simp] theorem powerOn_drop (s : State) : (powerOn s).drop = false := rfl
@[simp] theorem powerOn_gt (s : State) : (powerOn s).gt = GtState.powerOn s.cfg := rfl
@[simp] theorem powerOn_hostReply (s : State) : (powerOn s).hostReply = s.hostReply := rfl
@[simp] theorem powerOn_trace (s : State) : (powerOn s).trace = s.trace := rfl
@[simp] theorem powerOn_agenda (s : State) : (powerOn s).agenda = s.agenda := rfl
@[simp] theorem powerOn_drawIx (s : State) : (powerOn s).drawIx = s.drawIx := rfl

end Sys2Proof.Machine
end

