-- ==== Sys2Proof/Laws/Micro.lean ====
section
/-! SUPPORT. What the port transactions, one micro-operation and one CTC step can do, said once. -/

namespace Sys2Proof.Machine

/-- All that a full write can do: one transaction in the history, and the gating block's own answer where the module is used. -/
theorem portWrite_ok {r : Reg} {m : FieldMap} {s t : State} (h : portWrite r m s = .ok t) :
    ∃ g, t = record (.write r m) { s with gt := g } ∧
      ((s.cfg.gating = true ∧ gtWrite r m s.gt = .ok g) ∨ (s.cfg.gating = false ∧ g = s.gt)) := by
  unfold portWrite at h
  split at h
  · rename_i hg
    split at h
    · rename_i g hw
      exact ⟨g, (Except.ok.inj h).symm, .inl ⟨hg, hw⟩⟩
    · cases h
  · rename_i hg
    exact ⟨s.gt, (Except.ok.inj h).symm, .inr ⟨by simpa using hg, rfl⟩⟩

/-- All that an 8-bit write can do. -/
theorem portWrite8_ok {r : Reg} {v : Nat} {a : Answer} {s t : State} (h : portWrite8 r v a s = .ok t) :
    ∃ g, t = record (.write8 r v) { s with gt := g } ∧
      ((s.cfg.gating = true ∧ gtWrite8 r v (a.byteUpdate.map (cutUpdate s.cfg)) a.byteGate s.gt = .ok g) ∨
        (s.cfg.gating = false ∧ g = s.gt)) := by
  unfold portWrite8 at h
  split at h
  · rename_i hg
    split at h
    · rename_i g hw
      exact ⟨g, (Except.ok.inj h).symm, .inl ⟨hg, hw⟩⟩
    · cases h
  · rename_i hg
    exact ⟨s.gt, (Except.ok.inj h).symm, .inr ⟨by simpa using hg, rfl⟩⟩

/-- A write micro-operation that goes on is its transaction and MPC + 1. -/
theorem afterWrite_next {e : Except Fault State} {t : State} (h : afterWrite e = .next t) :
    ∃ s', e = .ok s' ∧ t = advance s' := by
  cases e with
  | ok s' => exact ⟨s', rfl, (Host.Outcome.next.inj h).symm⟩
  | error f => cases h

/-- All that a poll can do: one read, and MPC on or back. -/
theorem execPoll_eq (r : Reg) (pred : List (RegField × Nat)) (back : Nat) (a : Answer) (s : State) :
    execPoll r pred back a s =
      { s with
        trace := .read r (readReg r a s) :: s.trace,
        mpc := if pollHolds pred (readReg r a s) then s.mpc + 1 else s.mpc - back } := by
  unfold execPoll
  simp only []
  split <;> rfl

/-- All that a CTC step can do when it goes on: nothing while BUSY = 0, the micro-operation at MPC while BUSY = 1. -/
theorem ctcStep_next {a : Answer} {s t : State} (h : ctcStep a s = .next t) :
    (s.busy = false ∧ t = s) ∨
      ∃ op, s.busy = true ∧ s.prog[s.mpc]? = some op ∧ execMicro op a s = .next t := by
  unfold ctcStep at h
  split at h
  · rename_i hb
    split at h
    · rename_i op hop
      exact .inr ⟨op, hb, hop, h⟩
    · cases h
  · rename_i hb
    exact .inl ⟨by simpa using hb, (Host.Outcome.next.inj h).symm⟩

/-- A CTC step with BUSY = 1 runs the micro-operation at MPC. -/
theorem ctcStep_busy {a : Answer} {s : State} {op : MicroOp} (hb : s.busy = true) (hop : s.prog[s.mpc]? = some op) :
    ctcStep a s = execMicro op a s := by
  simp [ctcStep, hb, hop]

/-- A CTC step with BUSY = 0 changes nothing. -/
theorem ctcStep_idle {a : Answer} {s : State} (hb : s.busy = false) : ctcStep a s = .next s := by
  simp [ctcStep, hb]

/-- What one micro-operation makes of the state when it goes on: at most one new transaction, the gating block, MODBUF, CALBUF, FT,
USAGE or the response, each by its own micro-operation only. -/
theorem execMicro_next {op : MicroOp} {a : Answer} {s t : State} (h : execMicro op a s = .next t) :
    (∃ r fs g, op = .wr r fs ∧ portWrite r (fullWrite r (evalFields s.calbuf fs)) s = .ok g ∧ t = advance g) ∨
    (∃ r v g, op = .wr8 r v ∧ portWrite8 r v a s = .ok g ∧ t = advance g) ∨
    (∃ r, op = .rd r ∧ t = execRead r a s) ∨
    (∃ r fs g, op = .wrm r fs ∧ portWrite r (modifyWrite r (evalFields s.calbuf fs) s.modbuf) s = .ok g ∧ t = advance g) ∨
    (∃ r pred back, op = .poll r pred back ∧ t = execPoll r pred back a s) ∨
    (op = .cal ∧ t = execCal a s) ∨
    (∃ g v, op = .setft g v ∧ t = advance (setFt g v s)) ∨
    (∃ c, op = .setuse c ∧ t = advance (setUsage c s)) ∨
    (∃ p, op = .resp p ∧ t = respond p s) := by
  cases op with
  | wr r fs =>
    obtain ⟨g, hg, rfl⟩ := afterWrite_next h
    exact .inl ⟨r, fs, g, rfl, hg, rfl⟩
  | wr8 r v =>
    obtain ⟨g, hg, rfl⟩ := afterWrite_next h
    exact .inr (.inl ⟨r, v, g, rfl, hg, rfl⟩)
  | rd r => exact .inr (.inr (.inl ⟨r, rfl, (Host.Outcome.next.inj h).symm⟩))
  | wrm r fs =>
    obtain ⟨g, hg, rfl⟩ := afterWrite_next h
    exact .inr (.inr (.inr (.inl ⟨r, fs, g, rfl, hg, rfl⟩)))
  | poll r pred back =>
    exact .inr (.inr (.inr (.inr (.inl ⟨r, pred, back, rfl, (Host.Outcome.next.inj h).symm⟩))))
  | cal => exact .inr (.inr (.inr (.inr (.inr (.inl ⟨rfl, (Host.Outcome.next.inj h).symm⟩)))))
  | setft g v =>
    exact .inr (.inr (.inr (.inr (.inr (.inr (.inl ⟨g, v, rfl, (Host.Outcome.next.inj h).symm⟩))))))
  | setuse c =>
    exact .inr (.inr (.inr (.inr (.inr (.inr (.inr (.inl ⟨c, rfl, (Host.Outcome.next.inj h).symm⟩)))))))
  | resp p =>
    exact .inr (.inr (.inr (.inr (.inr (.inr (.inr (.inr ⟨p, rfl, (Host.Outcome.next.inj h).symm⟩)))))))

end Sys2Proof.Machine
end

