-- ==== Sys2Proof/Laws/Fields.lean ====
section
/-! SUPPORT. The small lemmas of field maps, of the banks and FT as vectors, of micro-program positions, and of the port's writes. -/

namespace Sys2Proof.Machine

/-! ### Field maps -/

/-- A field of a map built over a register's fields. -/
theorem fieldOf_map {v : RegField → Nat} {l : List RegField} {f : RegField} (h : f ∈ l) :
    fieldOf (l.map fun f => (f, v f)) f = v f := by
  induction l with
  | nil => cases h
  | cons x xs ih =>
    by_cases e : f = x
    · simp [fieldOf, e]
    · have hne : (f == x) = false := by simpa using e
      have hm : f ∈ xs := by simpa [e] using h
      simpa [fieldOf, List.lookup_cons, hne] using ih hm

/-- The fields a map built over a register's fields holds. -/
theorem map_fst_pair (v : RegField → Nat) (l : List RegField) : (l.map fun f => (f, v f)).map Prod.fst = l := by
  induction l with
  | nil => rfl
  | cons x xs ih => rw [List.map_cons, List.map_cons, ih]

/-- The value a field expression list gives to a field. -/
theorem lookup_evalFields (b : CalBuf) (fs : List (RegField × Val)) (f : RegField) :
    (evalFields b fs).lookup f = (fs.lookup f).map (evalVal b) := by
  induction fs with
  | nil => rfl
  | cons x xs ih =>
    obtain ⟨k, v⟩ := x
    cases e : (f == k) with
    | true => simp [evalFields, List.lookup_cons, e]
    | false => simpa [evalFields, List.lookup_cons, e] using ih

/-- What a full write carries in a field of its register. -/
theorem fieldOf_fullWrite {r : Reg} {m : FieldMap} {f : RegField} (h : f ∈ regFields r) :
    fieldOf (fullWrite r m) f = fieldOf m f := fieldOf_map h

/-- What a modifying write carries in a field of its register. -/
theorem fieldOf_modifyWrite {r : Reg} {m buf : FieldMap} {f : RegField} (h : f ∈ regFields r) :
    fieldOf (modifyWrite r m buf) f = (m.lookup f).getD (fieldOf buf f) := fieldOf_map h

/-- What a read returns in a field of its register. -/
theorem fieldOf_readValue {c : Config} {r : Reg} {known : FieldMap} {a : Answer} {f : RegField} (h : f ∈ regFields r) :
    fieldOf (readValue c r known a) f = cutField c r f ((known.lookup f).getD (fieldOf a.fields f)) := fieldOf_map h

/-- A field cut to its width is within it. -/
theorem cutField_lt {c : Config} {r : Reg} {f : RegField} (h : f ≠ .other) (v : Nat) :
    cutField c r f v < 2 ^ fieldWidth c r f := by
  simpa [cutField, h] using Nat.mod_lt v (by positivity : 0 < 2 ^ fieldWidth c r f)

/-- A value within its field's width is not cut. -/
theorem cutField_of_lt {c : Config} {r : Reg} {f : RegField} {v : Nat} (h : v < 2 ^ fieldWidth c r f) :
    cutField c r f v = v := by
  simp [cutField, Nat.mod_eq_of_lt h]

/-- A value that fits a field's minimum width fits the field. -/
theorem lt_fieldWidth {c : Config} {r : Reg} {f : RegField} {v : Nat} (h : v < 2 ^ minWidth c r f) :
    v < 2 ^ fieldWidth c r f :=
  lt_of_lt_of_le h (Nat.pow_le_pow_right (by decide) (Nat.le_add_right _ _))

/-- A free update, once cut, fits the banks. -/
theorem updateFits_cutUpdate (c : Config) (u : Update) : updateFits c (cutUpdate c u) = true := by
  cases u with
  | genctrl i b => simp [cutUpdate, updateFits, ctlFits, cutField_lt]
  | chan k g e => simp [cutUpdate, updateFits, chanFits, cutField_lt]
  | reset => rfl
  | div i v => rfl
  | selgen v => rfl
  | selch v => rfl

/-! ### FT and the generator banks -/

theorem vector_get_set {α : Type} (xs : Vector α 8) (g k : GenId) (v : α) :
    (xs.set g v).get k = if k = g then v else xs.get k := by
  have e : ∀ (xs : Vector α 8) (i : Fin 8), xs.get i = xs[i.val] := fun _ _ => rfl
  rw [e, e, Vector.getElem_set]
  by_cases h : k = g
  · simp [h]
  · have hv : g.val ≠ k.val := fun e => h (Fin.ext e.symm)
    simp [hv, h]

@[simp] theorem genOfNat_val (g : GenId) : genOfNat g.val = some g := by simp [genOfNat]

/-! ### Positions in a micro-program -/

theorem drop_of_getElem? {α : Type} {l : List α} {k : Nat} {x : α} (h : l[k]? = some x) :
    l.drop k = x :: l.drop (k + 1) := by
  obtain ⟨hk, rfl⟩ := List.getElem?_eq_some_iff.1 h
  exact List.drop_eq_getElem_cons hk

/-- One more executed micro-operation changes the record by that operation alone. -/
theorem recorded_take_succ {prog : List MicroOp} {k : Nat} {op : MicroOp} (h : prog[k]? = some op) :
    recorded (prog.take (k + 1)) = recordOne (recorded (prog.take k)) op := by
  rw [List.take_add_one, h, recorded, List.foldl_append]
  rfl

/-- Where a poll of a disciplined micro-program goes back to: itself, or the poll just before it. -/
theorem backsOk_poll {b : Bool} {prog : List MicroOp} (h : backsOk b prog = true) (k : Nat) {r : Reg}
    {p : List (RegField × Nat)} {back : Nat} (hk : prog[k]? = some (.poll r p back)) :
    back = 0 ∨ (back = 1 ∧ ((k = 0 ∧ b = true) ∨
      ∃ j r' p' b', k = j + 1 ∧ prog[j]? = some (.poll r' p' b'))) := by
  induction prog generalizing b k with
  | nil => simp at hk
  | cons op ops ih =>
    cases k with
    | zero =>
      simp only [List.getElem?_cons_zero, Option.some.injEq] at hk
      subst hk
      simp only [backsOk, Bool.and_eq_true, Bool.or_eq_true, decide_eq_true_eq] at h
      rcases h.1 with h | h
      · exact .inl h
      · exact .inr ⟨h.1, .inl ⟨rfl, h.2⟩⟩
    | succ k =>
      simp only [List.getElem?_cons_succ] at hk
      have key : ∃ b', backsOk b' ops = true ∧ (b' = true → ∃ r p bb, op = .poll r p bb) := by
        cases op with
        | poll r' p' b' =>
          simp only [backsOk, Bool.and_eq_true] at h
          exact ⟨true, h.2, fun _ => ⟨_, _, _, rfl⟩⟩
        | wr _ _ => exact ⟨false, h, fun h => by cases h⟩
        | wr8 _ _ => exact ⟨false, h, fun h => by cases h⟩
        | rd _ => exact ⟨false, h, fun h => by cases h⟩
        | wrm _ _ => exact ⟨false, h, fun h => by cases h⟩
        | cal => exact ⟨false, h, fun h => by cases h⟩
        | setft _ _ => exact ⟨false, h, fun h => by cases h⟩
        | setuse _ => exact ⟨false, h, fun h => by cases h⟩
        | resp _ => exact ⟨false, h, fun h => by cases h⟩
      obtain ⟨b', h1, h2⟩ := key
      rcases ih h1 k hk with h | ⟨h, h3 | ⟨j, r', p', b'', hj, hj2⟩⟩
      · exact .inl h
      · obtain ⟨rr, pp, bb, hop⟩ := h2 h3.2
        exact .inr ⟨h, .inr ⟨k, rr, pp, bb, rfl, by simp [h3.1, hop]⟩⟩
      · exact .inr ⟨h, .inr ⟨j + 1, r', p', b'', by omega, by simpa using hj2⟩⟩

/-! ### Writes that meet no update in flight -/

/-- A full write with no update in flight completes, and changes only the history and the gating block. -/
theorem portWrite_quiet (r : Reg) (m : FieldMap) {s : State} (hq : quiet s = true) :
    ∃ g, portWrite r m s = .ok (record (.write r m) { s with gt := g }) := by
  unfold portWrite
  cases hg : s.cfg.gating with
  | false => exact ⟨s.gt, rfl⟩
  | true =>
    have hp : s.gt.pending = none := by simpa [quiet, hg] using hq
    have hw : ∃ g, gtWrite r m s.gt = .ok g := by
      unfold gtWrite recordUpdate
      rw [hp]
      split
      · split
        · contradiction
        · split
          · split <;> exact ⟨_, rfl⟩
          · exact ⟨_, rfl⟩
      · split <;> exact ⟨_, rfl⟩
    obtain ⟨g, h⟩ := hw
    exact ⟨g, by rw [h]; rfl⟩

/-- The instance of `State.reset` meets the conditions on parameters. -/
theorem configWf_worked : configWf Config.worked = true := by
  have h : ∀ a b : Nat, a % 2 ^ b < 2 ^ b := fun a b => Nat.mod_lt _ (by positivity)
  have hm : ∀ a b c : Nat, b ≤ c → a % 2 ^ b < 2 ^ c := fun a b c hbc =>
    lt_of_lt_of_le (h a b) (Nat.pow_le_pow_right (by decide) hbc)
  have h8 : ∀ a : Nat, a % 8 < 8 := fun a => Nat.mod_lt _ (by decide)
  have h2 : ∀ a : Nat, a % 2 < 2 := fun a => Nat.mod_lt _ (by decide)
  have e : ∀ {α : Type} {n : Nat} (v : Vector α n) (i : Fin n), v.get i = v[i.val] := fun _ _ => rfl
  simp only [configWf, Bool.and_eq_true, decide_eq_true_eq]
  refine ⟨⟨⟨⟨⟨⟨⟨⟨⟨⟨⟨⟨⟨⟨⟨⟨by decide, by decide⟩, by decide⟩, by decide⟩, h _ _⟩, h _ _⟩, h _ _⟩, h _ _⟩, ?_⟩, ?_⟩, ?_⟩, ?_⟩, ?_⟩, ?_⟩,
    ?_⟩, ?_⟩, ?_⟩
  · exact hm _ _ _ (le_trans (min_le_left _ _) (min_le_left _ _))
  · exact hm _ _ _ (le_trans (min_le_left _ _) (min_le_right _ _))
  · exact hm _ _ _ (le_trans (min_le_right _ _) (min_le_left _ _))
  · exact hm _ _ _ (le_trans (min_le_right _ _) (min_le_right _ _))
  · simp only [List.all_eq_true, decide_eq_true_eq]
    intro k _
    show _ < 8
    rw [e]
    simp only [Config.worked, Vector.getElem_map]
    exact h8 _
  · show _ % 8 - 2 ≤ 5
    have := h8 Config.openParams.calCoarseW
    omega
  · simp only [List.all_eq_true, decide_eq_true_eq]
    intro k _
    rw [e]
    simp only [Config.worked, Vector.getElem_ofFn]
    fin_cases k <;> exact h _ _
  · simp only [List.all_eq_true]
    intro k _
    rw [e]
    simp only [Config.worked, Vector.getElem_ofFn, ctlFits, Bool.and_eq_true, decide_eq_true_eq]
    exact ⟨⟨⟨⟨⟨h8 _, h2 _⟩, h2 _⟩, h2 _⟩, h2 _⟩, h2 _⟩
  · simp only [List.all_eq_true]
    intro k _
    rw [e]
    simp only [Config.worked, Vector.getElem_map, chanFits, Bool.and_eq_true, decide_eq_true_eq]
    exact ⟨h8 _, h2 _⟩

end Sys2Proof.Machine
end

