-- ==== Sys2Proof/Laws/Host.lean ====
section
/-! SUPPORT. What a host access and one step can do, said once. -/

namespace Sys2Proof.Machine

/-- Every command's meaning is an issue of some micro-program (R45). -/
theorem exec_eq_issue (i : Instr) (s : State) : ∃ p, exec i s = .next (issue p s) := by
  cases i <;> exact ⟨_, rfl⟩

/-- The micro-program a command word is issued with (R141). -/
theorem issueWord_cases (s : State) :
    (∃ i, decode (s.cmdHi ++ s.cmdLo) = .ok i ∧ issueWord s = exec i s) ∨
    (∃ e, decode (s.cmdHi ++ s.cmdLo) = .error e ∧ issueWord s = .next (issue (illegalProg (rejectCause e)) s)) := by
  unfold issueWord
  split
  · rename_i i h
    exact .inl ⟨i, h, rfl⟩
  · rename_i e h
    exact .inr ⟨e, h, rfl⟩

/-- A CMD_LO store is dropped or issues (R33). -/
theorem storeCmdLo_cases (v : Word) (s : State) :
    ((s.busy = true ∨ s.phase = .halted) ∧ storeCmdLo v s = .next { s with drop := true }) ∨
    (s.busy = false ∧ s.phase ≠ .halted ∧ storeCmdLo v s = issueWord { s with cmdLo := v }) := by
  unfold storeCmdLo haltReq
  by_cases hp : s.phase = .halted
  · exact .inl ⟨.inr hp, by simp [hp]⟩
  · cases hb : s.busy
    · exact .inr ⟨rfl, hp, by simp [hp]⟩
    · exact .inl ⟨.inl rfl, by simp⟩

/-- All that a host access can do when it takes effect: a load returns a value; a CMD_LO store is dropped or issues; a CMD_HI or CSR
store lands. -/
theorem hostStep_next {a : HostAccess} {s t : State} (h : hostStep a s = .next t) :
    (∃ v, t = { s with hostReply := .loaded v }) ∨
    ((s.busy = true ∨ s.phase = .halted) ∧ t = { s with drop := true, hostReply := .stored }) ∨
    (s.busy = false ∧ s.phase ≠ .halted ∧ issueWord { s with cmdLo := a.data, hostReply := .stored } = .next t) ∨
    t = { s with cmdHi := a.data, hostReply := .stored } ∨
    (∃ d, t = { s with drop := d, hostReply := .stored }) := by
  unfold hostStep windowAccess at h
  split at h
  case isFalse => cases h
  split at h
  · cases h
  split at h
  · cases h
  split at h
  · cases h
  rename_i r _
  split at h
  · cases r with
    | cmdLo =>
      rcases storeCmdLo_cases a.data { s with hostReply := .stored } with ⟨hb, he⟩ | ⟨hb, hp, he⟩
      · exact .inr (.inl ⟨hb, (Host.Outcome.next.inj (he.symm.trans h)).symm⟩)
      · exact .inr (.inr (.inl ⟨hb, hp, he.symm.trans h⟩))
    | cmdHi =>
      cases h
      exact .inr (.inr (.inr (.inl rfl)))
    | csr =>
      cases h
      exact .inr (.inr (.inr (.inr ⟨_, rfl⟩)))
    | rspLo => cases h
    | rspHi => cases h
    | freq g => cases h
    | usageLo => cases h
    | usageHi => cases h
    | param => cases h
  · cases h
    exact .inl ⟨_, rfl⟩

/-- A scripted turn is the next one, and taking it removes it. -/
theorem step_agenda (t : Turn) (s : State) : step { s with agenda := t :: s.agenda } = runTurn t s := rfl

/-- One step is the run of the next turn. -/
theorem step_eq (s : State) : step s = runTurn (nextTurn s) (takeTurn s) := rfl

/-- Taking a turn changes the model's own fields only. -/
theorem takeTurn_eq (s : State) : ∃ ag ix, takeTurn s = { s with agenda := ag, drawIx := ix } := by
  unfold takeTurn
  split
  · exact ⟨_, s.drawIx, rfl⟩
  · rename_i h
    refine ⟨s.agenda, s.drawIx + 1, rfl⟩

end Sys2Proof.Machine
end

