-- ==== Sys2Proof/Laws/PerInstr.lean ====
section
/-! SUPPORT. The family RowMatch: each command's word carries its opcode and passes the mask test of its row (spec/30_encoding.md R104,
R105). One lemma per command. -/

namespace Sys2Proof

/-- The opcode stands in the word's low four bits, whatever the operands (R100). -/
theorem fieldOp_layOut (d : BitVec 32) (ch : BitVec 6) (var : BitVec 2) (src : BitVec 3) (flag : Bool) (g : BitVec 3)
    (op : BitVec 4) : fieldOp (layOut d ch var src flag g op) = op := by
  apply BitVec.eq_of_getLsbD_eq
  intro i hi
  simp only [fieldOp, layOut, BitVec.getLsbD_extractLsb', BitVec.getLsbD_append]
  interval_cases i <;> simp

/-- BRINGUP48 uses VAR alone. -/
theorem mask_bringup48 (var : BitVec 2) (op : BitVec 4) :
    layOut 0 0 var 0 false 0 op &&& 0xFFFFFFFFFFFFCFFF = layOut 0 0 0 0 false 0 op := by
  apply BitVec.eq_of_getLsbD_eq
  intro i hi
  simp only [layOut, BitVec.getLsbD_and, BitVec.getLsbD_append]
  interval_cases i <;> simp

/-- LOOKUP uses GEN alone. -/
theorem mask_lookup (g : BitVec 3) (op : BitVec 4) :
    layOut 0 0 0 0 false g op &&& 0xFFFFFFFFFFFFFF8F = layOut 0 0 0 0 false 0 op := by
  apply BitVec.eq_of_getLsbD_eq
  intro i hi
  simp only [layOut, BitVec.getLsbD_and, BitVec.getLsbD_append]
  interval_cases i <;> simp

/-- CLAIM uses DIV, SRC, FLAG and GEN. -/
theorem mask_claim (d : BitVec 32) (src : BitVec 3) (flag : Bool) (g : BitVec 3) (op : BitVec 4) :
    layOut d 0 0 src flag g op &&& 0x00000000FFFFF80F = layOut 0 0 0 0 false 0 op := by
  apply BitVec.eq_of_getLsbD_eq
  intro i hi
  simp only [layOut, BitVec.getLsbD_and, BitVec.getLsbD_append]
  interval_cases i <;> simp

/-- ENABLE uses CH and GEN. -/
theorem mask_enable (ch : BitVec 6) (g : BitVec 3) (op : BitVec 4) :
    layOut 0 ch 0 0 false g op &&& 0xFFFFFFFFFFC0FF8F = layOut 0 0 0 0 false 0 op := by
  apply BitVec.eq_of_getLsbD_eq
  intro i hi
  simp only [layOut, BitVec.getLsbD_and, BitVec.getLsbD_append]
  interval_cases i <;> simp

/-- STANDBY uses FLAG and GEN. -/
theorem mask_standby (flag : Bool) (g : BitVec 3) (op : BitVec 4) :
    layOut 0 0 0 0 flag g op &&& 0xFFFFFFFFFFFFFF0F = layOut 0 0 0 0 false 0 op := by
  apply BitVec.eq_of_getLsbD_eq
  intro i hi
  simp only [layOut, BitVec.getLsbD_and, BitVec.getLsbD_append]
  interval_cases i <;> simp

namespace Laws.RowMatch

/-- The command's opcode has a row, its word carries that opcode, and the word passes the row's mask test. -/
def Statement (i : Instr) : Prop :=
  ∃ row, opRow i.opcode = some row ∧ fieldOp (encode i) = i.opcode ∧ encode i &&& row.mask = row.pattern

theorem bringup48 (var : Variant) : Statement (.bringup48 var) :=
  ⟨_, rfl, fieldOp_layOut _ _ _ _ _ _ _, mask_bringup48 _ _⟩

theorem bringup8 : Statement .bringup8 := ⟨_, rfl, rfl, rfl⟩

theorem lookup (g : GenId) : Statement (.lookup g) :=
  ⟨_, rfl, fieldOp_layOut _ _ _ _ _ _ _, mask_lookup _ _⟩

theorem claim (g : GenId) (idc : Bool) (src : SourceKind) (d : Nat) : Statement (.claim g idc src d) :=
  ⟨_, rfl, fieldOp_layOut _ _ _ _ _ _ _, mask_claim _ _ _ _ _⟩

theorem enable (ch : Nat) (g : GenId) : Statement (.enable ch g) :=
  ⟨_, rfl, fieldOp_layOut _ _ _ _ _ _ _, mask_enable _ _ _⟩

theorem standby (g : GenId) (en : Bool) : Statement (.standby g en) :=
  ⟨_, rfl, fieldOp_layOut _ _ _ _ _ _ _, mask_standby _ _ _⟩

end Laws.RowMatch

end Sys2Proof
end

