-- ==== Sys2Proof/Laws/Runs.lean ====
section
/-! SUPPORT. The small facts about runs that the results of the commands rest on. -/

namespace Sys2Proof.Machine

/-- A turn put first in the agenda is run on the state as it is. -/
@[simp] theorem stepWith_eq (t : Turn) (s : State) : stepWith t s = runTurn t s := rfl

@[simp] theorem runTurn_ctc (a : Answer) (s : State) : runTurn (.ctc a) s = ctcStep a s := rfl
@[simp] theorem runTurn_host (a : HostAccess) (s : State) : runTurn (.host a) s = hostStep a s := rfl
@[simp] theorem runTurn_gtsync (s : State) : runTurn .gtsync s = .next { s with gt := gtSync s.cfg s.gt } := rfl
@[simp] theorem runTurn_blockReset (s : State) : runTurn .blockReset s = .next (blockReset s) := rfl
@[simp] theorem runTurn_powerOn (s : State) : runTurn .powerOn s = .next (powerOn s) := rfl

/-- A command issued with a lone RESP answers at once. -/
theorem answersAtOnce_of_resp {i : Instr} {s : State} {p : Resp} (h : exec i s = .next (issue [.resp p] s)) :
    answersAtOnce i s (respLo p) p.freq (p.phase.getD s.phase) :=
  ⟨_, _, h, fun _ => rfl⟩

theorem runTurns_append (ts us : List Turn) (s : State) :
    runTurns (ts ++ us) s = match runTurns ts s with
      | .next s' => runTurns us s'
      | .fault f => .fault f
      | .refused r => .refused r := by
  induction ts generalizing s with
  | nil => rfl
  | cons t ts ih =>
    rw [List.cons_append, runTurns, runTurns]
    cases runTurn t s <;> simp [ih]

@[simp] theorem prompt_nil : prompt [] = [] := rfl

@[simp] theorem prompt_cons (a : Answer) (as : List Answer) : prompt (a :: as) = .ctc a :: .gtsync :: prompt as := rfl

end Sys2Proof.Machine
end

