-- ==== Sys2Proof/Tests/Slice0.lean ====
section
/-! SUPPORT. The model's own tests: the well-formedness smoke, words written out from the encoding tables, one-step tests whose
results are the vectors of spec/95_test_vectors.md, and a witness for the hypotheses of each statement. -/

open Sys2Proof Sys2Proof.Machine

namespace Sys2Proof.Tests

/-! ### A concrete instance and small states -/

/-- An instance with every parameter a small number: the spec's worked NUM_CHANNELS and MULT_REF_CH (R10). -/
def small : Config where
  base := 0x40000C00
  numChannels := 37
  multRefCh := 0
  gating := true
  openLoopStageMul := true
  flashWs48m := 1
  startupInt32k := 2
  startupExt32k := 3
  oscExtraInt32k := 1
  oscExtraExt32k := 1
  prescDiv1 := 0
  div1 := 0
  srcCode := #v[3, 5, 6, 7, 4, 2, 0, 1]
  calCoarseW := 7
  calFineW := 10
  startupInt32kW := 3
  startupExt32kW := 3
  prescW := 2
  cpuDivW := 3
  aDivW := 3
  bDivW := 3
  cDivW := 3
  rwsW := 4
  extraBits := []
  genPor := Vector.replicate 8 { div := 1, ctl := { src := 0, genen := 0, idc := 0, oe := 0, divsel := 0, runstdby := 0 } }
  chPor := Vector.replicate 64 { gen := 0, clken := 0 }
  busGtPor := true

/-- `small` after reset. -/
def fresh : State := { State.reset with cfg := small, gt := .powerOn small }

/-- The tracker of V-BU1, with generator 3 claimed as in V-EN1: CONFIGURED, no command running. -/
def ready : State :=
  { fresh with
    phase := .configured, usage := 1, ft := #v[48000000, 32768, 0, 8192, 0, 0, 0, 0], prog := [.resp {}] }

/-- `ready` with generator 1 unclaimed, the tracker of V-BU3. -/
def usbReady : State := { ready with ft := #v[48000000, 0, 0, 0, 0, 0, 0, 0] }

/-- `ready` after a FATAL claim. -/
def stopped : State := { ready with phase := .halted, rspLo := 0x20000003, rspValid := true }

/-- A state in which the CTC runs `op` next, in the middle of a program. -/
def running (op : MicroOp) : State := { ready with busy := true, prog := [.cal, op, .resp {}], mpc := 1 }

/-- ENV's answer that satisfies every poll. -/
def good : Answer :=
  { fields := [(.int32kRdy, 1), (.ext32kRdy, 1), (.multRdy, 1), (.multLockc, 1), (.multLockf, 1)], coarse := 0x55, fine := 0x1FF }

/-- The micro-program a command is issued with. -/
def program (i : Instr) (s : State) : List MicroOp :=
  match exec i s with
  | .next t => t.prog
  | .fault _ => []
  | .refused _ => []

/-- The response word of a program's last micro-operation. -/
def answer (p : List MicroOp) : Nat :=
  match p.getLast? with
  | some (.resp r) => (r.freq ++ respLo r).toNat
  | _ => 0xFFFFFFFFFFFFFFFF

/-- What a load at an offset leaves as the host's reply. -/
def loaded (s : State) (off : Nat) : HostReply :=
  match hostStep (hostLoadAt s.cfg off) s with
  | .next t => t.hostReply
  | .fault _ => .none
  | .refused _ => .none

/-- The state after a store at an offset, itself where the access stops. -/
def stored (s : State) (off : Nat) (v : Word) : State :=
  match hostStep (hostStoreAt s.cfg off v) s with
  | .next t => t
  | .fault _ => s
  | .refused _ => s

/-- The bus error of an access, none where it takes effect. -/
def busError (s : State) (a : HostAccess) : Option BusErrorKind :=
  match hostStep a s with
  | .fault (.hostBusError k) => some k
  | _ => none

/-! ### Well-formedness -/

theorem test_wf_refuses_wide_divider : Instr.wf (.claim 3 false .gen1 (2 ^ 32)) = false := by decide
theorem test_wf_refuses_wide_channel : Instr.wf (.enable 64 3) = false := by decide
theorem test_wf_admits_the_largest : Instr.wf (.claim 3 false .gen1 (2 ^ 32 - 1)) = true ∧ Instr.wf (.enable 63 3) = true := by
  decide

theorem test_configWf_small : configWf small = true := by decide

/-- One ill-formed instance for each check on the parameters. -/
theorem test_configWf_refuses :
    ([ { small with numChannels := 0 }, { small with numChannels := 65 }, { small with multRefCh := 37 },
       { small with base := 0x40000C04 }, { small with flashWs48m := 16 }, { small with startupInt32k := 8 },
       { small with startupExt32k := 8 }, { small with prescDiv1 := 4 }, { small with div1 := 1, cpuDivW := 0 },
       { small with div1 := 1, aDivW := 0 }, { small with div1 := 1, bDivW := 0 }, { small with div1 := 1, cDivW := 0 },
       { small with srcCode := #v[3, 5, 6, 7, 4, 2, 8, 1] }, { small with calCoarseW := 8 },
       { small with genPor := small.genPor.set 2 { small.genPor.get 2 with div := 32 } },
       { small with genPor := small.genPor.set 2 { div := 1, ctl := { (small.genPor.get 2).ctl with genen := 2 } } },
       { small with chPor := small.chPor.set 36 { gen := 8, clken := 0 } } ]).all
      (fun c => !configWf c) = true := by decide

/-! ### Words written out from the pattern string of R100: d(32) r(10) c(6) rr v(2) r s(3) f g(3) o(4) -/

theorem test_decode_bringup48_usb :
    decode (0b00000000000000000000000000000000#32 ++ 0b0000000000#10 ++ 0b000000#6 ++ 0b00#2 ++ 0b10#2 ++ 0b0#1 ++ 0b000#3 ++
      0b0#1 ++ 0b000#3 ++ 0b0001#4) = .ok (.bringup48 .usb) := by decide
theorem test_decode_bringup8 :
    decode (0b00000000000000000000000000000000#32 ++ 0b0000000000#10 ++ 0b000000#6 ++ 0b00#2 ++ 0b00#2 ++ 0b0#1 ++ 0b000#3 ++
      0b0#1 ++ 0b000#3 ++ 0b0010#4) = .ok .bringup8 := by decide
theorem test_decode_lookup_g6 :
    decode (0b00000000000000000000000000000000#32 ++ 0b0000000000#10 ++ 0b000000#6 ++ 0b00#2 ++ 0b00#2 ++ 0b0#1 ++ 0b000#3 ++
      0b0#1 ++ 0b110#3 ++ 0b0011#4) = .ok (.lookup 6) := by decide
theorem test_decode_claim_g5_mult48m_div10_idc :
    decode (0b00000000000000000000000000001010#32 ++ 0b0000000000#10 ++ 0b000000#6 ++ 0b00#2 ++ 0b00#2 ++ 0b0#1 ++ 0b011#3 ++
      0b1#1 ++ 0b101#3 ++ 0b0100#4) = .ok (.claim 5 true .mult48m 10) := by decide
theorem test_decode_enable_ch41_g2 :
    decode (0b00000000000000000000000000000000#32 ++ 0b0000000000#10 ++ 0b101001#6 ++ 0b00#2 ++ 0b00#2 ++ 0b0#1 ++ 0b000#3 ++
      0b0#1 ++ 0b010#3 ++ 0b0101#4) = .ok (.enable 41 2) := by decide
theorem test_decode_standby_g4_off :
    decode (0b00000000000000000000000000000000#32 ++ 0b0000000000#10 ++ 0b000000#6 ++ 0b00#2 ++ 0b00#2 ++ 0b0#1 ++ 0b000#3 ++
      0b0#1 ++ 0b100#3 ++ 0b0110#4) = .ok (.standby 4 false) := by decide

/-- V-DC1 to V-DC12: the words that are no command, in the order of R110. -/
theorem test_decode_rejects :
    decode 0x0 = .error .reservedOpcode ∧ decode 0x7 = .error .reservedOpcode ∧
    decode 0xFFFFFFFFFFFFFFFF = .error .reservedOpcode ∧ decode 0x801 = .error .reservedField ∧
    decode 0x101 = .error .reservedField ∧ decode 0x12 = .error .reservedField ∧ decode 0xB3 = .error .reservedField ∧
    decode 0x100000033 = .error .reservedField ∧ decode 0x0000000400000D34 = .error .reservedField ∧
    decode 0x0000000400010534 = .error .reservedField ∧ decode 0x500C5 = .error .reservedField ∧
    decode 0x10086 = .error .reservedField := by decide

theorem test_decodeTableWord :
    decodeTableWord 64 0x0000000400000534 = some (.claim 3 false .gen1 4) ∧ decodeTableWord 64 0x7 = none ∧
    decodeTableWord 32 0xA6 = some (.standby 2 true) ∧ decodeTableWord 72 0x2 = none := by decide

/-! ### The micro-programs, one step each -/

/-- The flattened listing of R185, whatever the instance. -/
theorem test_prog48_int32k (c : Config) :
    prog48 c .int32k =
      [ .rd .flashCtrl, .wrm .flashCtrl [(.rws, .lit c.flashWs48m)],
        .rd .busMask, .wrm .busMask [(.gt, .lit 1)],
        .wr .oscInt32k [(.enable, .lit 1), (.startup, .lit c.startupInt32k), (.other, .lit c.oscExtraInt32k)],
        .poll .oscStatus [(.int32kRdy, 1)] 0,
        .wr .gtCtrl [(.swrst, .lit 1)], .poll .gtCtrl [(.swrst, 0)] 0, .poll .gtStatus [(.syncbusy, 0)] 1,
        .wr .gtGendiv [(.ident, .lit 1), (.div, .lit 1)], .poll .gtStatus [(.syncbusy, 0)] 0,
        .wr .gtGenctrl [(.ident, .lit 1), (.src, .lit (srcCode c .int32k)), (.genen, .lit 1), (.idc, .lit 0), (.oe, .lit 1),
          (.divsel, .lit 0)],
        .poll .gtStatus [(.syncbusy, 0)] 0,
        .wr .gtClkctrl [(.ident, .lit c.multRefCh), (.gen, .lit 1), (.clken, .lit 1)], .poll .gtStatus [(.syncbusy, 0)] 0,
        .cal, .wr .oscMultCtrl [(.ondemand, .lit 0)], .poll .oscStatus [(.multRdy, 1)] 0,
        .wr .oscMultVal [(.coarse, .calCoarse), (.fine, .calFine)],
        .wr .oscMultMul [(.mul, .lit 1464), (.cstep, .calCoarseQuarter), (.fstep, .lit 10)],
        .wr .oscMultCtrl [(.mode, .lit 1), (.ccdis, .lit 1), (.bplckc, .lit 1)], .poll .oscStatus [(.multRdy, 1)] 0,
        .rd .oscMultCtrl, .wrm .oscMultCtrl [(.enable, .lit 1)], .poll .oscStatus [(.multRdy, 1)] 0,
        .wr .gtGendiv [(.ident, .lit 0), (.div, .lit 1)], .poll .gtStatus [(.syncbusy, 0)] 0,
        .wr .gtGenctrl [(.ident, .lit 0), (.src, .lit (srcCode c .mult48m)), (.genen, .lit 1), (.idc, .lit 1), (.oe, .lit 1),
          (.divsel, .lit 0)],
        .poll .gtStatus [(.syncbusy, 0)] 0,
        .rd .oscRc8m, .wrm .oscRc8m [(.presc, .lit c.prescDiv1)],
        .wr .busCpudiv [(.div, .lit c.div1)], .wr .busAdiv [(.div, .lit c.div1)], .wr .busBdiv [(.div, .lit c.div1)],
        .wr .busCdiv [(.div, .lit c.div1)],
        .setft 0 48000000, .setft 1 32768, .setuse c.multRefCh, .resp { phase := some .configured } ] := rfl

/-- R185: the lengths of the other variants, and the places of their own operations. -/
theorem test_prog48_other_variants :
    (prog48 small .ext32k).length = 40 ∧ (prog48 small .usb).length = 30 ∧ (prog48 small .openLoop).length = 30 ∧
    (prog48 { small with openLoopStageMul := false } .openLoop).length = 29 ∧
    (prog48 small .ext32k)[24]? = some (.poll .oscStatus [(.multLockc, 1), (.multLockf, 1)] 0) := by decide

/-- BRINGUP48 ref=int32k of V-BU1 with the micro-operation at `k` next, the tracker being `ft` and `usage`. -/
def bringupAt (k : Nat) (ft : Vector Word 8) (usage : BitVec 64) : State :=
  { fresh with busy := true, cur := 1, prog := prog48 small .int32k, mpc := k, ft := ft, usage := usage }

/-- V-BU11: FREQ0 reads 0 with MPC at 35, and USAGE_LO reads 0 until index 37 has executed. The steps at 35 and 37 then write the
record while PHASE is still POWER_ON, as R142 and R185 have it (assumption 9). -/
theorem test_vbu11 :
    loaded (bringupAt 35 (Vector.replicate 8 0) 0) 0x20 = .loaded 0 ∧
    loaded (bringupAt 37 #v[48000000, 32768, 0, 0, 0, 0, 0, 0] 0) 0x40 = .loaded 0 ∧
    (∃ t, ctcStep good (bringupAt 35 (Vector.replicate 8 0) 0) = .next t ∧ t.ft.get 0 = 48000000 ∧ t.phase = .powerOn) ∧
    ∃ t, ctcStep good (bringupAt 37 #v[48000000, 32768, 0, 0, 0, 0, 0, 0] 0) = .next t ∧ t.usage = 1 ∧ t.phase = .powerOn :=
  ⟨by decide, by decide, ⟨_, rfl, rfl, rfl⟩, _, rfl, by decide, rfl⟩

/-- The listing of R191. -/
theorem test_prog8 (c : Config) :
    prog8 c =
      [ .rd .busMask, .wrm .busMask [(.gt, .lit 1)],
        .wr .gtCtrl [(.swrst, .lit 1)], .poll .gtCtrl [(.swrst, 0)] 0, .poll .gtStatus [(.syncbusy, 0)] 1,
        .wr .gtGendiv [(.ident, .lit 0), (.div, .lit 1)], .poll .gtStatus [(.syncbusy, 0)] 0,
        .wr .gtGenctrl [(.ident, .lit 0), (.src, .lit (srcCode c .rc8m)), (.genen, .lit 1), (.idc, .lit 0), (.oe, .lit 1),
          (.divsel, .lit 0)],
        .poll .gtStatus [(.syncbusy, 0)] 0,
        .rd .oscRc8m, .wrm .oscRc8m [(.presc, .lit c.prescDiv1)],
        .wr .busCpudiv [(.div, .lit c.div1)], .wr .busAdiv [(.div, .lit c.div1)], .wr .busBdiv [(.div, .lit c.div1)],
        .wr .busCdiv [(.div, .lit c.div1)],
        .setft 0 8000000, .resp { phase := some .configured } ] := rfl

/-- V-LK2, V-LK3. -/
theorem test_lookup :
    answer (program (.lookup 1) ready) = 0x0000800000000110 ∧ answer (program (.lookup 2) ready) = 0x0000000002000001 := by decide
/-- V-CL14, V-CL20. -/
theorem test_claim :
    answer (program (.claim 5 false .gen1 255) ready) = 0x0000008000000510 ∧
    answer (program (.claim 4 true .int32k 1) ready) = 0x0000800000000410 := by decide
/-- V-CL2, V-CL9, V-CL15 (the three fatal checks) and V-CL12 (NONE before the divider check). -/
theorem test_claim_fatal :
    answer (program (.claim 1 false .rc8m 65536) usbReady) = 0x20000003 ∧
    answer (program (.claim 6 false .xtal 1) ready) = 0x21000003 ∧
    answer (program (.claim 1 false .gen1 1) usbReady) = 0x22000003 ∧
    answer (program (.claim 1 false .rc8m 65536) ready) = 0x01000001 := by decide
/-- V-EN1. -/
theorem test_enable :
    answer (program (.enable 5 3) ready) = 0x0000200000050020 ∧ (program (.enable 5 3) ready)[0]? = some (.setuse 5) := by decide
/-- V-EN4, V-EN5, V-EN8, V-EN9: the order of the checks. -/
theorem test_enable_refuses :
    answer (program (.enable 0 0) ready) = 0x03000001 ∧ answer (program (.enable 37 0) ready) = 0x13000002 ∧
    answer (program (.enable 0 4) ready) = 0x14000002 ∧ answer (program (.enable 63 4) ready) = 0x13000002 := by decide
/-- The five transactions of R152. -/
theorem test_standby :
    program (.standby 2 true) ready =
      [ .wr8 .gtGenctrl 2, .poll .gtStatus [(.syncbusy, 0)] 0, .rd .gtGenctrl, .wrm .gtGenctrl [(.runstdby, .lit 1)],
        .poll .gtStatus [(.syncbusy, 0)] 0, .resp {} ] := by decide
/-- V-DC13, V-DC15. -/
theorem test_wrong_phase :
    answer (program (.lookup 0) fresh) = 0x12000002 ∧ answer (program .bringup8 ready) = 0x12000002 := by decide

/-! ### The host window -/

/-- V-HW1, V-HW2, V-HW12. -/
theorem test_host_loads :
    loaded fresh 0x10 = .loaded 0 ∧ loaded fresh 0x48 = .loaded 0x25 ∧ loaded ready 0x20 = .loaded 0x02DC6C00 ∧
    loaded ready 0x24 = .loaded 0x8000 ∧ loaded ready 0x40 = .loaded 1 ∧ loaded ready 0x44 = .loaded 0 := by decide
/-- V-HW3, V-HW11: a dropped CMD_LO store. -/
theorem test_host_drop :
    csrWord (stored { fresh with busy := true, cmdLo := 5 } 0x00 0x3) = 0x101 ∧
    (stored { fresh with busy := true, cmdLo := 5 } 0x00 0x3).cmdLo = 5 ∧ csrWord (stored stopped 0x00 0x13) = 0x10A := by decide
/-- V-HW4, V-HW5, V-HW15. -/
theorem test_host_stores :
    csrWord (stored { ready with drop := true, rspValid := true } 0x10 0x100) = 0x6 ∧
    (stored { ready with busy := true } 0x04 0x4).cmdHi = 4 ∧ (stored { ready with drop := true } 0x10 0xF).drop = true := by decide
/-- V-HW6 to V-HW10, V-HW13, V-HW14. -/
theorem test_host_bus_errors :
    busError ready { store := false, width := 8, addr := 0x40000C08, data := 0 } = some .width ∧
    busError ready (hostLoadAt small 0x14) = some .reservedOffset ∧ busError ready (hostStoreAt small 0x08 0) = some .readOnly ∧
    busError ready (hostLoadAt small 0x02) = some .alignment ∧
    busError { ready with busy := true } { store := true, width := 16, addr := 0x40000C00, data := 0 } = some .width ∧
    busError ready (hostStoreAt small 0x2C 1) = some .readOnly ∧ busError ready (hostLoadAt small 0x7C) = some .reservedOffset := by
  decide
/-- A word placed by the host's interface is issued by the next step. -/
theorem test_withFetchWord (t : State) (h : step (ready.withFetchWord 64 0x13) = .next t) :
    t.cur = 0x13 ∧ t.busy = true ∧ answer t.prog = 0x0000800000000110 := by
  cases h
  decide

/-! ### The gating block -/

/-- R255, R260: a GENDIV write is recorded, and its update keeps the low bits of the divider. -/
theorem test_gating_divider :
    (gtSync small { GtState.powerOn small with pending := some (.div 2 33), syncbusy := true }).gens.get 2 =
      { small.genPor.get 2 with div := 1 } := by decide
/-- R262, R264: a select write out of range changes nothing. -/
theorem test_gating_select :
    (gtSync small { GtState.powerOn small with selGen := 3, pending := some (.selgen 8) }).selGen = 3 ∧
    (gtSync small { GtState.powerOn small with selCh := 3, pending := some (.selch 37) }).selCh = 3 ∧
    (gtSync small { GtState.powerOn small with selCh := 3, pending := some (.selch (64 + 36)) }).selCh = 36 := by decide

/-- R254: an 8-bit write to GT.GENDIV, to which R255 gives no update, has no effect while the gate is closed. -/
theorem test_gating_byte_write_gated :
    gtWrite8 .gtGendiv 7 (some .reset) true { GtState.powerOn small with gten := false } =
      .ok { GtState.powerOn small with gten := false } := by decide
/-- R257: and it is GT_WRITE_DURING_SYNC while an update is in flight. -/
theorem test_gating_byte_write_during_sync :
    gtWrite8 .gtCtrl 1 none true { GtState.powerOn small with pending := some (.selgen 2) } = .error .gtWriteDuringSync := by decide

/-! ### Witnesses: concrete states and operands that meet each statement's hypotheses together -/

/-- DecodeOfEncodeGivesBackTheCommand, at the largest operands. -/
theorem witness_decode_of_encode :
    Instr.wf (.claim 7 true .xtal (2 ^ 32 - 1)) = true ∧ Instr.wf (.enable 63 7) = true ∧ Instr.wf (.bringup48 .openLoop) = true ∧
    Instr.wf .bringup8 = true ∧ Instr.wf (.lookup 7) = true ∧ Instr.wf (.standby 7 true) = true := by decide
/-- EncodeOfDecodeGivesBackTheWord. -/
theorem witness_encode_of_decode : decode 0xFFFFFFFF000007F4 = .ok (.claim 7 true .xtal 0xFFFFFFFF) := by decide
/-- StepRunsTheDecodedCommand, and the first clause of CmdLoStoreIssuesOrIsDropped. -/
theorem witness_step :
    ready.busy = false ∧ ready.phase ≠ .halted ∧ decode (ready.cmdHi ++ 0x33#32) = .ok (.lookup 3) := by decide
/-- PlacedWordIsRunByTheNextStep. -/
theorem witness_placed_word :
    ready.phase ≠ .halted ∧ decodeTableWord 64 0x0000000400000534 = some (.claim 3 false .gen1 4) := by decide
/-- UndecodableWordIsAnsweredIllegal: opcodes 0, 7 and 15, and a defined opcode that fails its mask test. -/
theorem witness_undecodable :
    fresh.busy = false ∧ fresh.phase ≠ .halted ∧ (fieldOp (fresh.cmdHi ++ 0x0#32)).toNat = 0 ∧
    7 ≤ (fieldOp (fresh.cmdHi ++ 0x7#32)).toNat ∧ 7 ≤ (fieldOp (fresh.cmdHi ++ 0xF#32)).toNat ∧
    ∃ row, opRow (fieldOp (fresh.cmdHi ++ 0x801#32)) = some row ∧ (fresh.cmdHi ++ 0x801#32) &&& row.mask ≠ row.pattern :=
  ⟨rfl, by decide, by decide, by decide, by decide, _, rfl, by decide⟩
/-- CmdLoStoreIssuesOrIsDropped, second clause: a running command, and HALTED. -/
theorem witness_drop : (running .cal).busy = true ∧ stopped.phase = .halted ∧ stopped.busy = false := by decide
/-- CsrShowsItsFieldsAndAStoreClearsOnlyDrop: an issue, and a RESP at MPC. -/
theorem witness_csr :
    (∃ t, exec (.lookup 1) ready = .next t) ∧ (running (.resp {})).busy = true ∧
    (running (.resp {})).prog[(running (.resp {})).mpc]? = some (.resp {}) := ⟨⟨_, rfl⟩, rfl, rfl⟩
/-- ParamReadsTheInstance, at the two ends of NUM_CHANNELS. -/
theorem witness_param :
    configWf small = true ∧ configWf { small with numChannels := 1 } = true ∧
    configWf { small with numChannels := 64, multRefCh := 63 } = true := by decide
/-- BusErrorExactlyOnAnIllegalAccess: accesses in the window at both ends of each of its ranges, illegal and not. -/
theorem witness_bus_error :
    (∀ off ∈ [0x00, 0x13, 0x14, 0x1C, 0x1F, 0x20, 0x48, 0x4C, 0x7F],
      fresh.cfg.base ≤ fresh.cfg.base + off ∧ fresh.cfg.base + off < fresh.cfg.base + 0x80) ∧
    busError fresh (hostLoadAt small 0x1C) = some .reservedOffset ∧ busError fresh (hostLoadAt small 0x20) = none ∧
    busError fresh (hostStoreAt small 0x20 0) = some .readOnly ∧ busError fresh (hostLoadAt small 0x48) = none ∧
    busError fresh (hostStoreAt small 0x48 0) = some .readOnly ∧ busError fresh (hostLoadAt small 0x4C) = some .reservedOffset ∧
    busError fresh (hostStoreAt small 0x10 0) = none ∧ busError fresh (hostLoadAt small 0x0C) = none := by decide
/-- ResetLeavesTheTabledValues, second and third alternatives. -/
theorem witness_block_reset :
    (∃ s, stepWith .blockReset (running .cal) = .next s) ∧ ∃ s, stepWith .powerOn (running .cal) = .next s := ⟨⟨_, rfl⟩, _, rfl⟩
/-- WrongPhaseIsAnsweredIllegal: both kinds of command, each in both other phases. -/
theorem witness_wrong_phase :
    fresh.phase ≠ admittedIn (.lookup 0) ∧ ready.phase ≠ admittedIn .bringup8 ∧ stopped.phase ≠ admittedIn (.standby 0 true) ∧
    stopped.phase ≠ admittedIn (.bringup48 .usb) := by decide
/-- LookupAnswersTheHandle and ClaimOfAConfiguredGeneratorAnswersNone. -/
theorem witness_lookup : ready.phase = .configured ∧ ready.ft.get 3 ≠ 0 ∧ ready.ft.get 7 = 0 := by decide
/-- ClaimFatalCases: the dividers next to each maximum, the two sources without a frequency, and the two zero frequencies. -/
theorem witness_claim_fatal :
    usbReady.phase = .configured ∧ usbReady.ft.get 1 = 0 ∧ usbReady.ft.get 2 = 0 ∧ usbReady.ft.get 7 = 0 ∧
    ¬ (1 ≤ 0 ∧ 0 ≤ 255) ∧ ¬ (1 ≤ 65536 ∧ 65536 ≤ 65535) ∧ ¬ (1 ≤ 32 ∧ 32 ≤ 31) ∧ ¬ (1 ≤ 256 ∧ 256 ≤ 255) ∧
    (1 ≤ 65535 ∧ 65535 ≤ 65535) ∧ sourceFreq usbReady.ft .gen1 = some 0 ∧ 0 / 65535 = 0 ∧
    sourceFreq usbReady.ft .int32k = some 32768 ∧ 32768 / 32769 = 0 := by decide
/-- ZeroFrequencyArisesInExactlyTwoCases: the dividers on both sides of each case. -/
theorem witness_zero_frequency :
    legalDivider 1 32768 = true ∧ legalDivider 1 32769 = true ∧ sourceFreq ready.ft .ext32k = some 32768 ∧
    legalDivider 4 255 = true ∧ sourceFreq ready.ft .gen1 = some 32768 ∧ sourceFreq usbReady.ft .gen1 = some 0 := by decide
/-- ClaimConfiguresTheGenerator and ClaimProgramsTheGeneratorBank: the largest dividers. -/
theorem witness_claim :
    usbReady.phase = .configured ∧ quiet usbReady = true ∧ usbReady.cfg.gating = true ∧ usbReady.gt.gten = true ∧
    usbReady.gt.pending = none ∧ usbReady.ft.get 1 = 0 ∧ usbReady.ft.get 2 = 0 ∧ usbReady.ft.get 7 = 0 ∧
    sourceFreq usbReady.ft .rc8m = some 8000000 ∧ legalDivider 1 65535 = true ∧ 8000000 / 65535 ≠ 0 ∧
    legalDivider 2 31 = true ∧ 8000000 / 31 ≠ 0 ∧ legalDivider 7 255 = true ∧ 8000000 / 255 ≠ 0 := by decide
/-- The environments of every completion statement: as many answers as the longest program has operations, each satisfying every
poll, whatever the instance. -/
theorem witness_prompt_environment :
    (List.replicate 40 good).length = 40 ∧ (∀ a ∈ List.replicate 40 good, envReady small a = true) := by decide
/-- EnableRefusesInOrder: the first channel the chip lacks, an unconfigured generator, a used channel. -/
theorem witness_enable_refuses :
    ready.phase = .configured ∧ ready.cfg.numChannels ≤ 37 ∧ 36 < ready.cfg.numChannels ∧ ready.ft.get 4 = 0 ∧
    0 < ready.cfg.numChannels ∧ ready.ft.get 3 ≠ 0 ∧ ready.usage.getLsbD 0 = true := by decide
/-- EnableIssuesTheToken, EnableMarksTheChannelFirst, EnableProgramsTheChannelBank: the chip's last channel. -/
theorem witness_enable :
    ready.phase = .configured ∧ quiet ready = true ∧ ready.cfg.gating = true ∧ ready.gt.gten = true ∧ ready.gt.pending = none ∧
    36 < ready.cfg.numChannels ∧ 36 < 64 ∧ ready.ft.get 3 ≠ 0 ∧ ready.usage.getLsbD 36 = false := by decide
/-- StandbyCompletes and StandbyChangesOnlyRunstdby, of an unconfigured generator. -/
theorem witness_standby :
    ready.phase = .configured ∧ quiet ready = true ∧ ready.cfg.gating = true ∧ ready.gt.gten = true ∧ ready.gt.pending = none ∧
    ready.ft.get 7 = 0 ∧ ctlFits ready.cfg (ready.gt.gens.get 7).ctl = true := by decide
/-- Bringup48Completes, Bringup8Completes, BringupProgramsTheGeneratorTree. -/
theorem witness_bringup :
    fresh.phase = .powerOn ∧ quiet fresh = true ∧ fresh.cfg.gating = true ∧ fresh.gt.pending = none ∧
    fresh.cfg.multRefCh < fresh.cfg.numChannels := by decide
/-- EveryMicroProgramIsDisciplined, EveryWriteFitsItsField and CtcStepFrame (both its alternatives). -/
theorem witness_micro :
    (∃ t, exec (.standby 7 false) ready = .next t) ∧ configWf ready.cfg = true ∧ (∃ t, ctcStep good (running .cal) = .next t) ∧
    (∃ t, ctcStep good ready = .next t) := ⟨⟨_, rfl⟩, by decide, ⟨_, rfl⟩, ⟨_, rfl⟩⟩
/-- PollGoesOnOrBack. -/
theorem witness_poll :
    (running (.poll .oscStatus [(.multRdy, 1)] 0)).busy = true ∧
    (running (.poll .oscStatus [(.multRdy, 1)] 0)).prog[1]? = some (.poll .oscStatus [(.multRdy, 1)] 0) := by decide
/-- ModifyKeepsUnlistedFields. -/
theorem witness_modify :
    let s : State := { ready with busy := true, prog := [.rd .busMask, .wrm .busMask [(.gt, .lit 1)], .resp {}] }
    s.busy = true ∧ quiet s = true ∧ RegField.gt ∈ regFields .busMask ∧ s.prog[s.mpc]? = some (.rd .busMask) ∧
    s.prog[s.mpc + 1]? = some (.wrm .busMask [(.gt, .lit 1)]) := by decide
/-- FullWriteZeroesUnlistedFields, CalStoresTheCalibration, ResponseWordLayout. -/
theorem witness_micro_ops :
    (running (.wr .oscMultMul [(.mul, .lit 48000)])).prog[1]? = some (.wr .oscMultMul [(.mul, .lit 48000)]) ∧
    quiet (running (.wr .oscMultMul [(.mul, .lit 48000)])) = true ∧ (running .cal).prog[1]? = some .cal ∧
    (running (.resp { kind := .token, ch := 63, freq := 8192 })).prog[1]? = some (.resp { kind := .token, ch := 63, freq := 8192 }) ∧
    (running .cal).busy = true := by decide
/-- GtWriteMeetsTheSynchronizer: each of its clauses, and the meeting value of assumption 12, a closed gate with an update in flight. -/
theorem witness_gt_write :
    isGt .gtCtrl = true ∧ isGt .gtStatus = true ∧
    (let g : GtState := { GtState.powerOn small with pending := some .reset, gten := false }; g.pending ≠ none ∧ g.gten = false) ∧
    (let g : GtState := { GtState.powerOn small with gten := false }; g.pending = none ∧ g.gten = false) ∧
    (GtState.powerOn small).pending = none ∧ (GtState.powerOn small).gten = true ∧ fieldOf [(.swrst, 1)] .swrst ≠ 0 ∧
    fieldOf [(.swrst, 0)] .swrst = 0 := by decide
/-- GtSyncAppliesTheUpdate: an update of every kind, its index at the ends of its range. -/
theorem witness_gt_sync :
    ∀ u ∈ [Update.reset, .div 7 255, .div 8 0, .genctrl 7 default, .genctrl 8 default, .selgen 7, .selgen 8, .chan 36 7 1, .chan 37 7 1, .selch 36,
        .selch 63],
      ({ GtState.powerOn small with pending := some u, syncbusy := true } : GtState).pending = some u := by decide
/-- GtReadsShowTheirState. -/
theorem witness_gt_reads :
    ready.cfg.gating = true ∧ ready.gt.gten = true ∧ ready.gt.syncbusy = false ∧
    ctlFits ready.cfg (ready.gt.gens.get ready.gt.selGen).ctl = true ∧ ready.gt.selCh < 64 ∧
    (∀ h : ready.gt.selCh < 64, chanFits ready.cfg ready.gt.chans[ready.gt.selCh] = true) := by decide

/-- The tracker's invariant of a state in each phase, and of a bring-up that has written FT and not yet USAGE. -/
theorem witness_tracker :
    TrackerInv ready ∧ TrackerInv stopped ∧ TrackerInv fresh ∧ TrackerInv (bringupAt 37 #v[48000000, 32768, 0, 0, 0, 0, 0, 0] 0) := by
  have bound : ∀ s : State, s.cfg = small → s.usage = 1 ∨ s.usage = 0 →
      ∀ ch, s.cfg.numChannels ≤ ch → channelUsed s ch = false := by
    intro s hc hu ch h
    rw [hc] at h
    have hne : ch ≠ 0 := fun e => by subst e; exact absurd h (by decide)
    unfold channelUsed
    rcases hu with hu | hu <;> rw [hu] <;> simp [BitVec.getLsbD_one, hne]
  refine ⟨⟨by decide, by decide, bound _ rfl (.inl rfl), fun _ => by decide, nofun, nofun,
      nofun, nofun, nofun⟩,
    ⟨by decide, by decide, bound _ rfl (.inl rfl), fun _ => by decide, nofun, fun _ => rfl,
      nofun, nofun, nofun⟩,
    ⟨by decide, by decide, bound _ rfl (.inr rfl), fun h => absurd rfl h, fun _ _ => ⟨rfl, rfl⟩, nofun,
      nofun, nofun, nofun⟩,
    ⟨by decide, by decide, bound _ rfl (.inr rfl), fun h => absurd rfl h, fun _ h => absurd (h rfl) (by decide), nofun,
      fun _ => by decide, fun _ => by decide, fun _ _ => by decide⟩⟩
/-- The gating block's invariant, with a standby command running and an update in flight. -/
theorem witness_gating :
    GateInv { ready with
      busy := true, prog := program (.standby 2 true) ready, mpc := 1, trace := [.write8 .gtGenctrl 2],
      gt := { GtState.powerOn small with pending := some (.selgen 2), syncbusy := true } } :=
  ⟨by decide, rfl, by decide, by decide, by decide, by decide, by decide, fun u h => by cases h; rfl, by decide, by decide,
    fun _ => by decide, fun _ => by decide, fun _ => by decide, fun _ r fs h => by simp [program] at h; cases h⟩
/-- The sync discipline, with an update in flight and a poll for it ahead. -/
theorem witness_sync :
    SyncInv { ready with
      busy := true, prog := [.poll .gtStatus [(.syncbusy, 0)] 0, .resp {}],
      gt := { GtState.powerOn small with pending := some (.selgen 2), syncbusy := true } } :=
  ⟨rfl, nofun, nofun, nofun, fun _ => by decide, fun _ => by decide⟩
/-- StepKeepsTheInstance, the invariants' steps, UsageOnlyGrows, ConfiguredFrequencyIsNeverRewritten, PhaseTransitions and
HaltedStaysHalted: a step taken, by a turn that is no reset. -/
theorem witness_steps :
    (∃ t, step { ready with agenda := [.ctc good] } = .next t) ∧ isResetTurn (nextTurn { ready with agenda := [.ctc good] }) = false ∧
    ready.usage.getLsbD 0 = true ∧ ready.ft.get 3 ≠ 0 ∧ stopped.phase = .halted ∧
    (∃ t, step { stopped with agenda := [.host (hostLoadAt small 0x08)] } = .next t) ∧
    isResetTurn (nextTurn { stopped with agenda := [.host (hostLoadAt small 0x08)] }) = false ∧
    (nextTurn { ready with agenda := [.ctc good] } = .blockReset → ready.gt.pending = none) :=
  ⟨⟨_, rfl⟩, rfl, rfl, by decide, rfl, ⟨_, rfl⟩, rfl, fun _ => rfl⟩
/-- An instance without the module, and a CTC that always steps. -/
def plain : State := { ready with cfg := { small with gating := false } }

/-- FairCommandsEnd: an ENABLE, whose program has a poll, under a schedule that is fair to it. -/
theorem witness_fair :
    ∃ t, exec (.enable 5 3) plain = .next t ∧ EnvFair (fun _ => .ctc good) t ∧
      (∀ n : Nat, isResetTurn ((fun _ => Turn.ctc good) n) = false) ∧ ∀ n, stateAt (fun _ => .ctc good) t n ≠ none := by
  refine ⟨_, rfl, ?_⟩
  generalize ht : issue _ plain = t
  have hb : ∀ n, ∃ u, stateAt (fun _ => .ctc good) t (n + 4) = some u ∧ u.busy = false ∧ u.gt.pending = none := by
    intro n
    subst ht
    induction n with
    | zero => exact ⟨_, rfl, rfl, rfl⟩
    | succ n ih =>
      obtain ⟨u, hu, hb, hp⟩ := ih
      refine ⟨u, ?_, hb, hp⟩
      rw [show n + 1 + 4 = (n + 4) + 1 from rfl, stateAt, hu]
      show (match ctcStep good u with | .next u => some u | .fault _ => none | .refused _ => none) = _
      simp [ctcStep, hb]
  refine ⟨⟨fun n _ _ _ => ⟨n, le_refl n, good, rfl⟩, ?_, ?_⟩, fun _ => rfl, ?_⟩
  · intro n u hu hp
    refine absurd ?_ hp
    subst ht
    match n, hu with
    | 0, hu | 1, hu | 2, hu | 3, hu => cases hu; rfl
    | k + 4, hu =>
      obtain ⟨w, hw, _, hp'⟩ := hb k
      cases hw.symm.trans hu
      exact hp'
  · intro n u r pred back hu hbu hpoll
    subst ht
    match n, hu with
    | 0, hu | 1, hu | 3, hu => cases hu; cases hpoll
    | 2, hu =>
      cases hu
      cases hpoll
      exact ⟨2, le_refl 2, .inr ⟨_, good, rfl, rfl, rfl, rfl, by decide⟩⟩
    | k + 4, hu =>
      obtain ⟨w, hw, hb', _⟩ := hb k
      cases hw.symm.trans hu
      rw [hb'] at hbu
      cases hbu
  · intro n
    match n with
    | 0 => exact nofun
    | 1 | 2 | 3 => subst ht; exact Option.isSome_iff_ne_none.1 rfl
    | k + 4 =>
      obtain ⟨w, hw, _⟩ := hb k
      rw [hw]
      exact fun h => by cases h

/-- EnvironmentCannotChangeTheAnswer: two completed runs of one command under different schedules and answers. -/
theorem witness_two_runs :
    ∃ t u₁ u₂, exec (.lookup 1) ready = .next t ∧ (∀ x ∈ [Turn.ctc good], isWorkTurn x = true) ∧
      (∀ x ∈ [Turn.gtsync, .ctc default, .ctc good], isWorkTurn x = true) ∧ runTurns [.ctc good] t = .next u₁ ∧
      runTurns [.gtsync, .ctc default, .ctc good] t = .next u₂ ∧ u₁.busy = false ∧ u₂.busy = false :=
  ⟨_, _, _, rfl, by decide, by decide, rfl, rfl, rfl, rfl⟩

end Sys2Proof.Tests
end

section
/-! PROOFS of the family 10_state.md: the host window, reset, issue, and the tracker's invariant.

The tracker's proofs go through two facts. `runTurn_effect` says once what a turn can do to the tracker, and
`trackerInv_move_iff` says that a micro-operation which neither records nor responds can be stepped over, forwards or
backwards, without touching the invariant. -/

namespace Sys2Proof.Machine

/-! ### The host window -/

/-- The window's registers stand at 4-byte aligned offsets inside its 0x80 bytes (R41, R71). -/
theorem windowReg_bounds {off : Nat} {r : WinReg} (h : windowReg off = some r) : off < 0x80 ∧ off % 4 = 0 := by
  unfold windowReg at h
  split at h <;> simp at h ⊢

theorem windowReg_freq : ∀ g : GenId, windowReg (0x20 + 4 * g) = some (.freq g) := by decide

/-- A 32-bit access at a register's offset reaches that register. -/
theorem hostStep_at {a : HostAccess} {s : State} {off : Nat} {r : WinReg} (hr : windowReg off = some r)
    (hw : a.width = 32) (ha : a.addr = s.cfg.base + off) :
    hostStep a s =
      if a.store then windowStore r a.data s else .next { s with hostReply := .loaded (windowValue r s) } := by
  obtain ⟨hlt, hal⟩ := windowReg_bounds hr
  simp [hostStep, windowAccess, hw, ha, hlt, hal, hr]

/-- A 32-bit store at a register's offset is a store to that register (R33, R34, R37). -/
theorem stepWith_store {s : State} {off : Nat} {r : WinReg} (hr : windowReg off = some r) (v : Word) :
    stepWith (.host (hostStoreAt s.cfg off v)) s = windowStore r v s :=
  hostStep_at hr rfl rfl

/-- A 32-bit load at a register's offset returns what the register names, with no side effect (R72). -/
theorem loadReturns_of_windowReg {s : State} {off : Nat} {r : WinReg} {v : Word} (hr : windowReg off = some r)
    (hv : windowValue r s = v) : loadReturns s off v := by
  subst hv
  exact hostStep_at hr rfl rfl

/-- A CMD_LO store while BUSY = 0 and not in HALTED issues the word the window then holds (R33). -/
theorem stepWith_store_cmdLo_free {s : State} (v : Word) (hb : s.busy = false) (hp : s.phase ≠ .halted) :
    stepWith (.host (hostStoreAt s.cfg 0x00 v)) s = issueWord { s with cmdLo := v, hostReply := .stored } := by
  rw [stepWith_store (r := .cmdLo) rfl]
  simp [windowStore, storeCmdLo, haltReq, hb, hp]

/-- A CMD_LO store while BUSY = 1 or in HALTED is dropped (R33). -/
theorem stepWith_store_cmdLo_dropped {s : State} (v : Word) (h : s.busy = true ∨ s.phase = .halted) :
    stepWith (.host (hostStoreAt s.cfg 0x00 v)) s = .next { s with drop := true, hostReply := .stored } := by
  rw [stepWith_store (r := .cmdLo) rfl]
  simp [windowStore, storeCmdLo, haltReq, h]

/-- An issued word is latched and some micro-program starts, whatever the word (R45). -/
theorem issueWord_eq_issue (s : State) : ∃ p, issueWord s = .next (issue p s) := by
  rcases issueWord_cases s with ⟨i, -, h⟩ | ⟨e, -, h⟩
  · obtain ⟨p, hp⟩ := exec_eq_issue i s
    exact ⟨p, h.trans hp⟩
  · exact ⟨_, h⟩

theorem issueWord_next {s t : State} (h : issueWord s = .next t) : ∃ p, t = issue p s := by
  obtain ⟨p, hp⟩ := issueWord_eq_issue s
  exact ⟨p, Host.Outcome.next.inj (h.symm.trans hp)⟩

/-- CSR's fields at their bits, as a number (R37). -/
theorem csrWord_eq_ofNat (s : State) :
    csrWord s = BitVec.ofNat 32 (s.busy.toNat + 2 * s.rspValid.toNat +
      4 * (match s.phase with | .powerOn => 0 | .configured => 1 | .halted => 2) + 256 * s.drop.toNat) := by
  unfold csrWord
  cases s.phase <;> cases s.busy <;> cases s.rspValid <;> cases s.drop <;> rfl

/-- DROP after a CSR store (R37). -/
theorem dropAfterCsrWrite_eq (v : Word) (drop : Bool) :
    dropAfterCsrWrite v drop = if v.getLsbD 8 then false else drop := by
  unfold dropAfterCsrWrite
  cases v.getLsbD 8 <;> simp

/-- A chip has at most 64 channels, the reference channel among them (R9, R10). -/
theorem channels_of_configWf {c : Config} (h : configWf c = true) :
    c.numChannels ≤ 64 ∧ c.multRefCh < c.numChannels := by
  simp only [configWf, Bool.and_eq_true, decide_eq_true_eq, and_assoc] at h
  obtain ⟨-, hn, hm, -⟩ := h
  exact ⟨hn, hm⟩

/-- PARAM's fields at their bits, as a number, for parameters that fit them (R40). -/
theorem paramWord_eq_ofNat {c : Config} (hn : c.numChannels < 128) (hm : c.multRefCh < 64) :
    paramWord c = BitVec.ofNat 32 (c.numChannels + 256 * c.multRefCh) := by
  have hor : c.multRefCh <<< 8 ||| c.numChannels = c.numChannels + 256 * c.multRefCh := by
    rw [← Nat.shiftLeft_add_eq_or_of_lt (by omega : c.numChannels < 2 ^ 8)]
    omega
  apply BitVec.eq_of_toNat_eq
  simp only [paramWord, BitVec.toNat_append, BitVec.toNat_ofNat, Nat.mod_eq_of_lt hm, Nat.mod_eq_of_lt hn]
  simp [hor]
  omega

/-- STATUS stands in bits 3:0 of the response (R106). -/
theorem respLo_status (p : Resp) : (respLo p).extractLsb' 0 4 = statusCode p.status := by
  apply BitVec.eq_of_getLsbD_eq
  intro i hi
  simp only [respLo, BitVec.getLsbD_extractLsb', BitVec.getLsbD_append]
  interval_cases i <;> simp

/-! ### The micro-program of a command -/

/-- The micro-program a command is issued with in the phase that admits it (R113, R141). -/
def commandProg (i : Instr) (s : State) : List MicroOp :=
  match i with
  | .bringup48 v => prog48 s.cfg v
  | .bringup8 => prog8 s.cfg
  | .lookup g => progLookup g s
  | .claim g idc k d => progClaim g idc k d s
  | .enable ch g => progEnable ch g s
  | .standby g en => progStandby g en

/-- A command's meaning is the phase test and the issue of its micro-program (R45, R113). -/
theorem exec_eq (i : Instr) (s : State) :
    exec i s = .next (issue (inPhase (admittedIn i) s (commandProg i s)) s) := by
  cases i <;> rfl

/-- A command outside its phase is issued with the lone WRONG_PHASE response (R113). -/
theorem exec_wrongPhase {i : Instr} {s : State} (h : s.phase ≠ admittedIn i) :
    exec i s = .next (issue (illegalProg .wrongPhase) s) := by
  rw [exec_eq, inPhase, if_neg h]

theorem exec_enable_ok {ch : Nat} {g : GenId} {s : State} (hp : s.phase = .configured) (hc : ch < s.cfg.numChannels)
    (hf : freqOf s g ≠ 0) (hu : channelUsed s ch = false) :
    exec (.enable ch g) s =
      .next (issue (.setuse ch :: (seqChan ch g ++ [.resp (tokenResp ch (freqOf s g))])) s) := by
  have hprog : progEnable ch g s = .setuse ch :: (seqChan ch g ++ [.resp (tokenResp ch (freqOf s g))]) := by
    rw [progEnable, if_neg (Nat.not_le.2 hc), if_neg hf, hu]
    rfl
  rw [exec_eq, ← hprog]
  exact congrArg (fun p => Host.Outcome.next (issue p s)) (if_pos hp)

/-- A decoded word carries its command's opcode (R100, R104). -/
theorem fieldOp_of_decode {w : CmdWord} {i : Instr} (h : decode w = .ok i) : fieldOp w = i.opcode := by
  have hi : assemble w = some i := by
    unfold decode at h
    split at h
    · rename_i j _ ha
      split at h
      · exact ha.trans (congrArg some (Except.ok.inj h))
      · cases h
    · cases h
  apply BitVec.eq_of_toNat_eq
  unfold assemble at hi
  split at hi <;> cases hi <;> assumption

/-- A disciplined micro-program stays so after a poll (R143). -/
theorem backsOk_of_false {b : Bool} {p : List MicroOp} (h : backsOk false p = true) : backsOk b p = true := by
  cases b with
  | false => exact h
  | true =>
    cases p with
    | nil => rfl
    | cons op ops =>
      cases op with
      | poll r pred back =>
        simp only [backsOk, Bool.and_false, Bool.or_false, Bool.and_eq_true] at h
        simp only [backsOk, h.1, h.2, Bool.true_or, Bool.and_true]
      | wr _ _ | wr8 _ _ | rd _ | wrm _ _ | cal | setft _ _ | setuse _ | resp _ => exact h

/-- Disciplined micro-programs in a row are disciplined. -/
theorem backsOk_append {b : Bool} {p q : List MicroOp} (hp : backsOk b p = true) (hq : backsOk false q = true) :
    backsOk b (p ++ q) = true := by
  induction p generalizing b with
  | nil => exact backsOk_of_false hq
  | cons op ops ih =>
    cases op with
    | poll r pred back =>
      simp only [backsOk, Bool.and_eq_true] at hp
      simp only [List.cons_append, backsOk, Bool.and_eq_true]
      exact ⟨hp.1, ih hp.2⟩
    | wr _ _ | wr8 _ _ | rd _ | wrm _ _ | cal | setft _ _ | setuse _ | resp _ => exact ih (b := false) hp

/-- The ratio write of step 6 is one full write, or none (R177, R182). -/
theorem multMulWrite_cases (c : Config) (v : Variant) :
    multMulWrite c v = [] ∨ ∃ fs, multMulWrite c v = [.wr .oscMultMul fs] := by
  cases v with
  | int32k | ext32k | usb => exact .inr ⟨_, rfl⟩
  | openLoop =>
    cases h : c.openLoopStageMul with
    | true => exact .inr ⟨_, if_pos h⟩
    | false => exact .inl (if_neg (by simp [h]))

theorem backsOk_multStep (c : Config) (v : Variant) : backsOk false (multStep c v) = true := by
  unfold multStep
  rcases multMulWrite_cases c v with h | ⟨fs, h⟩ <;> rw [h] <;> cases v <;> rfl

theorem backsOk_prog48 (c : Config) (v : Variant) : backsOk false (prog48 c v) = true := by
  have pre : backsOk false (flashStep c ++ ungateStep ++ oscStep c v ++ seqReset ++ feedStep c v) = true := by
    cases v <;> rfl
  have post : backsOk false (switchStep c ++ prescStep c ++ recordStep c v ++ bringupDone) = true := by
    cases v <;> rfl
  simpa [prog48] using backsOk_append pre (backsOk_append (backsOk_multStep c v) post)

/-- Every micro-program a command is issued with keeps its polls' targets inside it (R143). -/
theorem backsOk_commandProg (i : Instr) (s : State) : backsOk false (commandProg i s) = true := by
  cases i with
  | bringup48 v => exact backsOk_prog48 s.cfg v
  | bringup8 => rfl
  | lookup g =>
    simp only [commandProg, progLookup]
    split <;> rfl
  | claim g idc k d =>
    simp only [commandProg, progClaim]
    repeat' split
    all_goals rfl
  | enable ch g =>
    simp only [commandProg, progEnable]
    repeat' split
    all_goals rfl
  | standby g en => rfl

theorem commandProg_ne_nil (i : Instr) (s : State) : commandProg i s ≠ [] := by
  cases i with
  | bringup48 v => simp [commandProg, prog48, bringupDone]
  | bringup8 => simp [commandProg, prog8, bringupDone]
  | lookup g =>
    simp only [commandProg, progLookup]
    split <;> exact nofun
  | claim g idc k d =>
    simp only [commandProg, progClaim]
    repeat' split
    all_goals exact nofun
  | enable ch g =>
    simp only [commandProg, progEnable]
    repeat' split
    all_goals exact nofun
  | standby g en => exact nofun

/-! ### What a turn does to the tracker -/

/-- Every entry of a clear FT is 0 (R48). -/
@[simp] theorem get_clearFt : ∀ g : GenId, (Vector.replicate 8 (0 : Word)).get g = 0 := by decide

/-- Two states agree in all that the tracker's invariant speaks of. -/
structure SameTracker (s t : State) : Prop where
  cfg : t.cfg = s.cfg := by rfl
  ft : t.ft = s.ft := by rfl
  usage : t.usage = s.usage := by rfl
  phase : t.phase = s.phase := by rfl
  busy : t.busy = s.busy := by rfl
  cur : t.cur = s.cur := by rfl
  prog : t.prog = s.prog := by rfl
  mpc : t.mpc = s.mpc := by rfl

/-- A micro-operation that neither writes the tracker nor ends its command. -/
def sparesTracker (op : MicroOp) : Bool := !records op && !isResp op

/-- What a turn can do to the tracker: a reset clears it; a CMD_LO store may issue a command; a CTC step runs the
micro-operation at MPC, which writes the tracker (SETFT, SETUSE), ends the command (RESP), or only moves MPC, on or
(a poll) back; every other turn leaves it as it is. -/
inductive TurnEffect (τ : Turn) (s t : State) : Prop
  | reset (hτ : isResetTurn τ = true) (h : SameTracker (blockReset s) t)
  | unchanged (h : SameTracker s t)
  | issued (v : Word) (hb : s.busy = false) (hp : s.phase ≠ .halted)
      (h : issueWord { s with cmdLo := v, hostReply := .stored } = .next t)
  | movedOn (op : MicroOp) (hb : s.busy = true) (hop : s.prog[s.mpc]? = some op) (hs : sparesTracker op = true)
      (h : SameTracker { s with mpc := s.mpc + 1 } t)
  | movedBack (r : Reg) (pred : List (RegField × Nat)) (back : Nat) (hb : s.busy = true)
      (hop : s.prog[s.mpc]? = some (.poll r pred back)) (h : SameTracker { s with mpc := s.mpc - back } t)
  | recordedFreq (g : GenId) (v : Word) (hb : s.busy = true) (hop : s.prog[s.mpc]? = some (.setft g v))
      (h : t = advance (setFt g v s))
  | recordedUse (ch : Nat) (hb : s.busy = true) (hop : s.prog[s.mpc]? = some (.setuse ch))
      (h : t = advance (setUsage ch s))
  | responded (p : Resp) (hb : s.busy = true) (hop : s.prog[s.mpc]? = some (.resp p)) (h : t = respond p s)

/-- A completed full write, and MPC + 1, leave the tracker as it is. -/
theorem sameTracker_portWrite {r : Reg} {m : FieldMap} {s t : State} (h : portWrite r m s = .ok t) :
    SameTracker { s with mpc := s.mpc + 1 } (advance t) := by
  obtain ⟨g, rfl, -⟩ := portWrite_ok h
  exact .mk

/-- A completed 8-bit write, and MPC + 1, leave the tracker as it is. -/
theorem sameTracker_portWrite8 {r : Reg} {v : Nat} {a : Answer} {s t : State} (h : portWrite8 r v a s = .ok t) :
    SameTracker { s with mpc := s.mpc + 1 } (advance t) := by
  obtain ⟨g, rfl, -⟩ := portWrite8_ok h
  exact .mk

/-- A micro-operation's effect on the tracker (R142). -/
theorem execMicro_effect {op : MicroOp} {a : Answer} {τ : Turn} {s t : State} (hb : s.busy = true)
    (hop : s.prog[s.mpc]? = some op) (h : execMicro op a s = .next t) : TurnEffect τ s t := by
  rcases execMicro_next h with ⟨r, fs, u, rfl, hw, rfl⟩ | ⟨r, v, u, rfl, hw, rfl⟩ | ⟨r, rfl, rfl⟩ |
    ⟨r, fs, u, rfl, hw, rfl⟩ | ⟨r, pred, back, rfl, rfl⟩ | ⟨rfl, rfl⟩ | ⟨g, v, rfl, rfl⟩ | ⟨c, rfl, rfl⟩ | ⟨p, rfl, rfl⟩
  case inr.inr.inr.inr.inl =>
    rw [execPoll_eq]
    cases pollHolds pred (readReg r a s) with
    | true => exact .movedOn _ hb hop rfl .mk
    | false => exact .movedBack r pred back hb hop .mk
  · exact .movedOn _ hb hop rfl (sameTracker_portWrite hw)
  · exact .movedOn _ hb hop rfl (sameTracker_portWrite8 hw)
  · exact .movedOn _ hb hop rfl .mk
  · exact .movedOn _ hb hop rfl (sameTracker_portWrite hw)
  · exact .movedOn _ hb hop rfl .mk
  · exact .recordedFreq g v hb hop rfl
  · exact .recordedUse c hb hop rfl
  · exact .responded p hb hop rfl

/-- All that a turn can do to the tracker when it goes on. -/
theorem runTurn_effect {τ : Turn} {s t : State} (h : runTurn τ s = .next t) : TurnEffect τ s t := by
  cases τ with
  | host a =>
    rcases hostStep_next h with ⟨v, rfl⟩ | ⟨-, rfl⟩ | ⟨hb, hp, hi⟩ | rfl | ⟨d, rfl⟩
    · exact .unchanged .mk
    · exact .unchanged .mk
    · exact .issued a.data hb hp hi
    · exact .unchanged .mk
    · exact .unchanged .mk
  | ctc a =>
    rcases ctcStep_next h with ⟨-, rfl⟩ | ⟨op, hb, hop, he⟩
    · exact .unchanged .mk
    · exact execMicro_effect hb hop he
  | gtsync =>
    cases h
    exact .unchanged .mk
  | blockReset =>
    cases h
    exact .reset rfl .mk
  | powerOn =>
    cases h
    exact .reset rfl .mk

/-- Taking a turn from the agenda leaves the tracker as it is. -/
theorem sameTracker_takeTurn (s : State) : SameTracker s (takeTurn s) := by
  obtain ⟨ag, ix, h⟩ := takeTurn_eq s
  rw [h]
  exact .mk

/-- All that a step can do to the tracker when it goes on. -/
theorem step_effect {s t : State} (h : step s = .next t) : TurnEffect (nextTurn s) (takeTurn s) t :=
  runTurn_effect h

/-! ### The rest of a micro-program -/

theorem tailOk_cons_of_spares {c : Config} {cur : CmdWord} {ft : Vector Word 8} {u : BitVec 64} {ph : Phase} {op : MicroOp}
    (h : sparesTracker op = true) (ops : List MicroOp) : tailOk c cur ft u ph (op :: ops) = tailOk c cur ft u ph ops := by
  cases op with
  | setft _ _ | setuse _ | resp _ => cases h
  | wr _ _ | wr8 _ _ | rd _ | wrm _ _ | poll _ _ _ | cal => rfl

theorem tailOk_append_of_spares {c : Config} {cur : CmdWord} {ft : Vector Word 8} {u : BitVec 64} {ph : Phase}
    {pre : List MicroOp} (h : pre.all sparesTracker = true) (ops : List MicroOp) :
    tailOk c cur ft u ph (pre ++ ops) = tailOk c cur ft u ph ops := by
  induction pre with
  | nil => rfl
  | cons op pre ih =>
    obtain ⟨hop, hpre⟩ := (by simpa using h : sparesTracker op = true ∧ ∀ x ∈ pre, sparesTracker x = true)
    rw [List.cons_append, tailOk_cons_of_spares hop]
    exact ih (by simpa using hpre)

theorem recordOne_of_spares {op : MicroOp} (h : sparesTracker op = true) (x : Vector Word 8 × BitVec 64) :
    recordOne x op = x := by
  cases op with
  | setft _ _ | setuse _ | resp _ => cases h
  | wr _ _ | wr8 _ _ | rd _ | wrm _ _ | poll _ _ _ | cal => rfl

/-- The micro-operations before `k + 1` are those before `k` and the one at `k`. -/
theorem all_take_succ {prog : List MicroOp} {k : Nat} {op : MicroOp} (hop : prog[k]? = some op) (f : MicroOp → Bool) :
    (prog.take (k + 1)).all f = ((prog.take k).all f && f op) := by
  rw [List.take_add_one, hop]
  simp

end Sys2Proof.Machine
end

section
/-! PROOFS: the tracker's invariant (10_state.md section 6). -/

namespace Sys2Proof.Machine

/-! ### The invariant without an effect on the tracker -/

theorem TrackerInv.congr {s t : State} (hs : TrackerInv s) (h : SameTracker s t) : TrackerInv t := by
  obtain ⟨cfg, ft, usage, phase, busy, cur, prog, mpc⟩ := h
  obtain ⟨i1, i2, i3, i4, i5, i6, i7, i8, i9⟩ := hs
  constructor <;> simp only [cfg, ft, usage, phase, busy, cur, prog, mpc, channelUsed] <;> assumption

/-- A CTC without a command, its tracker cleared, has the invariant, as after reset (R48, R49). -/
theorem trackerInv_of_cleared {s : State} (hc : configWf s.cfg = true) (hf : s.ft = Vector.replicate 8 0)
    (hu : s.usage = 0) (hp : s.phase = .powerOn) (hb : s.busy = false) : TrackerInv s where
  instanceOk := hc
  freqBound g := by
    rw [hf, get_clearFt]
    decide
  channelBound ch _ := by simp [channelUsed, hu]
  coreClock h := absurd hp h
  powerOnClear _ _ := ⟨hf, hu⟩
  haltedIdle _ := hb
  backs h := by simp [hb] at h
  tail h := by simp [hb] at h
  powerOnRecords _ h := by simp [hb] at h

/-- A micro-operation that spares the tracker may be stepped over, forwards or backwards: the invariant says the same
before and after it. -/
theorem trackerInv_move_iff {s : State} {k : Nat} {op : MicroOp} (hop : s.prog[k]? = some op)
    (hs : sparesTracker op = true) : TrackerInv { s with mpc := k } ↔ TrackerInv { s with mpc := k + 1 } := by
  have hrec : records op = false := by
    rw [sparesTracker, Bool.and_eq_true] at hs
    simpa using hs.1
  have htail : tailOk s.cfg s.cur s.ft s.usage s.phase (s.prog.drop k)
      = tailOk s.cfg s.cur s.ft s.usage s.phase (s.prog.drop (k + 1)) := by
    rw [drop_of_getElem? hop, tailOk_cons_of_spares hs]
  have hall : (s.prog.take (k + 1)).all (fun op => !records op) = (s.prog.take k).all (fun op => !records op) := by
    rw [all_take_succ hop, hrec, Bool.not_false, Bool.and_true]
  have hrecd : recorded (s.prog.take (k + 1)) = recorded (s.prog.take k) := by
    rw [recorded_take_succ hop, recordOne_of_spares hs]
  constructor
  · rintro ⟨i1, i2, i3, i4, i5, i6, i7, i8, i9⟩
    exact ⟨i1, i2, i3, i4, fun hp h => i5 hp fun hb => hall ▸ h hb, i6, i7, fun hb => htail ▸ i8 hb,
      fun hp hb => hrecd.symm ▸ i9 hp hb⟩
  · rintro ⟨i1, i2, i3, i4, i5, i6, i7, i8, i9⟩
    exact ⟨i1, i2, i3, i4, fun hp h => i5 hp fun hb => hall.symm ▸ h hb, i6, i7, fun hb => htail.symm ▸ i8 hb,
      fun hp hb => hrecd ▸ i9 hp hb⟩

/-- A poll goes back to itself or to the poll before it, so the invariant holds there too (R143, R146). -/
theorem TrackerInv.movedBack {s : State} (hs : TrackerInv s) (hb : s.busy = true) {r : Reg}
    {pred : List (RegField × Nat)} {back : Nat} (hop : s.prog[s.mpc]? = some (.poll r pred back)) :
    TrackerInv { s with mpc := s.mpc - back } := by
  rcases backsOk_poll (hs.backs hb) s.mpc hop with rfl | ⟨rfl, ⟨-, hf⟩ | ⟨j, r', p', b', hj, hpoll⟩⟩
  · exact hs
  · cases hf
  · have hsame : TrackerInv { s with mpc := j + 1 } := hj ▸ hs
    have hback : s.mpc - 1 = j := by omega
    rw [hback]
    exact (trackerInv_move_iff hpoll rfl).2 hsame

/-! ### The invariant over the micro-operations that record or respond -/

/-- What the invariant says of a running micro-program that stands at `op` (R49). -/
theorem TrackerInv.tail_cons {s : State} (hs : TrackerInv s) (hb : s.busy = true) {op : MicroOp}
    (hop : s.prog[s.mpc]? = some op) :
    tailOk s.cfg s.cur s.ft s.usage s.phase (op :: s.prog.drop (s.mpc + 1)) = true :=
  drop_of_getElem? hop ▸ hs.tail hb

/-- Before a SETFT the entry is 0, its value is a frequency within bounds, and the rest is in order (R21, R49). -/
theorem TrackerInv.setft {s : State} (hs : TrackerInv s) (hb : s.busy = true) {g : GenId} {v : Word}
    (hop : s.prog[s.mpc]? = some (.setft g v)) :
    s.ft.get g = 0 ∧ v.toNat ≤ 96000000 ∧
      tailOk s.cfg s.cur (s.ft.set g v) s.usage s.phase (s.prog.drop (s.mpc + 1)) = true := by
  have h := hs.tail_cons hb hop
  simp only [tailOk, Bool.and_eq_true, decide_eq_true_eq] at h
  obtain ⟨⟨⟨hz, -⟩, hv⟩, htail⟩ := h
  exact ⟨hz, hv, htail⟩

/-- Before a SETUSE the channel is one of the chip's, and the rest is in order (R23, R49). -/
theorem TrackerInv.setuse {s : State} (hs : TrackerInv s) (hb : s.busy = true) {ch : Nat}
    (hop : s.prog[s.mpc]? = some (.setuse ch)) :
    ch < s.cfg.numChannels ∧
      tailOk s.cfg s.cur s.ft (s.usage ||| (1#64 <<< ch)) s.phase (s.prog.drop (s.mpc + 1)) = true := by
  have h := hs.tail_cons hb hop
  simpa only [tailOk, Bool.and_eq_true, decide_eq_true_eq] using h

/-- A RESP of a running micro-program is one that R25 allows. -/
theorem TrackerInv.resp {s : State} (hs : TrackerInv s) (hb : s.busy = true) {p : Resp}
    (hop : s.prog[s.mpc]? = some (.resp p)) : respOk s.cur s.ft s.usage s.phase p = true := by
  have h := hs.tail_cons hb hop
  simp only [tailOk, Bool.and_eq_true] at h
  exact h.2

/-- In POWER_ON the tracker, changed by the micro-operation at MPC, is what has then been recorded (R142, R186). -/
theorem TrackerInv.recordOne_eq {s : State} (hs : TrackerInv s) (hb : s.busy = true) (hp : s.phase = .powerOn)
    {op : MicroOp} (hop : s.prog[s.mpc]? = some op) :
    recordOne (s.ft, s.usage) op = recorded (s.prog.take (s.mpc + 1)) := by
  rw [recorded_take_succ hop, hs.powerOnRecords hp hb]

/-- What R25 allows a RESP to do to PHASE: nothing, in CONFIGURED or with the tracker clear in POWER_ON; a completed
bring-up; a FATAL claim. -/
theorem respOk_cases {cur : CmdWord} {ft : Vector Word 8} {u : BitVec 64} {ph : Phase} {p : Resp}
    (h : respOk cur ft u ph p = true) :
    (p.phase = none ∧ (ph = .configured ∨ (ph = .powerOn ∧ ft = Vector.replicate 8 0 ∧ u = 0))) ∨
    (p = { phase := some .configured } ∧ ph = .powerOn ∧ (fieldOp cur = 1 ∨ fieldOp cur = 2) ∧
      (ft.get 0 = 48000000 ∨ ft.get 0 = 8000000)) ∨
    (p.phase = some .halted ∧ p.status = .fatal ∧ ph = .configured ∧ fieldOp cur = 4) := by
  unfold respOk at h
  split at h
  · rename_i hn
    simp only [Bool.and_eq_true, Bool.or_eq_true, decide_eq_true_eq] at h
    obtain ⟨-, hph⟩ := h
    exact .inl ⟨hn, hph.imp id fun ⟨⟨h1, h2⟩, h3⟩ => ⟨h1, h2, h3⟩⟩
  · simp only [Bool.and_eq_true, Bool.or_eq_true, decide_eq_true_eq] at h
    obtain ⟨⟨⟨hp, hph⟩, hop⟩, hft⟩ := h
    exact .inr (.inl ⟨hp, hph, hop, hft⟩)
  · rename_i hn
    simp only [Bool.and_eq_true, decide_eq_true_eq] at h
    obtain ⟨⟨hst, hph⟩, hop⟩ := h
    exact .inr (.inr ⟨hn, hst, hph, hop⟩)
  · cases h

/-- A recording micro-operation, once executed, is among those before MPC. -/
theorem not_all_take_succ {prog : List MicroOp} {k : Nat} {op : MicroOp} (hop : prog[k]? = some op)
    (hr : records op = true) : ¬ (prog.take (k + 1)).all (fun op => !records op) = true := by
  rw [all_take_succ hop, hr]
  simp

/-- SETFT keeps the invariant: the entry written was 0, so outside POWER_ON it is not FT[0]. -/
theorem TrackerInv.advance_setFt {s : State} (hs : TrackerInv s) (hb : s.busy = true) {g : GenId} {v : Word}
    (hop : s.prog[s.mpc]? = some (.setft g v)) : TrackerInv (advance (setFt g v s)) := by
  obtain ⟨hz, hv, htail⟩ := hs.setft hb hop
  exact {
    instanceOk := hs.instanceOk
    freqBound := fun k => by
      simp only [advance_ft, setFt_ft, vector_get_set]
      split
      · exact hv
      · exact hs.freqBound k
    channelBound := hs.channelBound
    coreClock := fun hp => by
      have hcore := hs.coreClock hp
      have hg : (0 : GenId) ≠ g := by
        rintro rfl
        rw [hz] at hcore
        revert hcore
        decide
      simpa only [advance_ft, setFt_ft, vector_get_set, if_neg hg] using hcore
    powerOnClear := fun _ hq => absurd (hq hb) (not_all_take_succ hop rfl)
    haltedIdle := hs.haltedIdle
    backs := hs.backs
    tail := fun _ => htail
    powerOnRecords := fun hp _ => hs.recordOne_eq hb hp hop }

/-- SETUSE keeps the invariant: the channel is one of the chip's. -/
theorem TrackerInv.advance_setUsage {s : State} (hs : TrackerInv s) (hb : s.busy = true) {ch : Nat}
    (hop : s.prog[s.mpc]? = some (.setuse ch)) : TrackerInv (advance (setUsage ch s)) := by
  obtain ⟨hch, htail⟩ := hs.setuse hb hop
  exact {
    instanceOk := hs.instanceOk
    freqBound := hs.freqBound
    channelBound := fun c hc => by
      have hold := hs.channelBound c hc
      have hne : c - ch ≠ 0 := by
        have : s.cfg.numChannels ≤ c := hc
        omega
      simp only [channelUsed] at hold
      simp [channelUsed, hold, hne]
    coreClock := hs.coreClock
    powerOnClear := fun _ hq => absurd (hq hb) (not_all_take_succ hop rfl)
    haltedIdle := hs.haltedIdle
    backs := hs.backs
    tail := fun _ => htail
    powerOnRecords := fun hp _ => hs.recordOne_eq hb hp hop }

/-- RESP keeps the invariant: no command runs after it, and the phase it enters fits the tracker. -/
theorem TrackerInv.respond {s : State} (hs : TrackerInv s) (hb : s.busy = true) {p : Resp}
    (hop : s.prog[s.mpc]? = some (.resp p)) : TrackerInv (respond p s) := by
  have hcases := respOk_cases (hs.resp hb hop)
  exact {
    instanceOk := hs.instanceOk
    freqBound := hs.freqBound
    channelBound := hs.channelBound
    coreClock := fun hp => by
      rcases hcases with ⟨hn, -⟩ | ⟨-, -, -, hft⟩ | ⟨-, -, hph, -⟩
      · exact hs.coreClock (by simpa [hn] using hp)
      · exact hft
      · exact hs.coreClock (by simp [hph])
    powerOnClear := fun hp _ => by
      rcases hcases with ⟨hn, hph | ⟨-, hft, hu⟩⟩ | ⟨rfl, -⟩ | ⟨hn, -⟩
      · simp [hn, hph] at hp
      · exact ⟨hft, hu⟩
      · cases hp
      · simp [hn] at hp
    haltedIdle := fun _ => rfl
    backs := nofun
    tail := nofun
    powerOnRecords := fun _ => nofun }

/-! ### The invariant over the issue of a command -/

/-- An idle state in POWER_ON has a clear tracker (R49). -/
theorem TrackerInv.clear_of_idle {s : State} (hs : TrackerInv s) (hb : s.busy = false) (hp : s.phase = .powerOn) :
    s.ft = Vector.replicate 8 0 ∧ s.usage = 0 :=
  hs.powerOnClear hp fun h => by simp [hb] at h

/-- Issuing a micro-program that keeps the rules keeps the invariant. -/
theorem TrackerInv.issue {s : State} (hs : TrackerInv s) (hb : s.busy = false) (hp : s.phase ≠ .halted)
    {p : List MicroOp} (hbacks : backsOk false p = true)
    (htail : tailOk s.cfg (s.cmdHi ++ s.cmdLo) s.ft s.usage s.phase p = true) : TrackerInv (issue p s) where
  instanceOk := hs.instanceOk
  freqBound := hs.freqBound
  channelBound := hs.channelBound
  coreClock := hs.coreClock
  powerOnClear h _ := hs.clear_of_idle hb h
  haltedIdle h := absurd h hp
  backs _ := hbacks
  tail _ := htail
  powerOnRecords h _ := by
    obtain ⟨hft, hu⟩ := hs.clear_of_idle hb h
    simp [hft, hu, recorded]

/-- A lone RESP that gives no phase and is not FATAL keeps the rules in every phase that issues commands. -/
theorem TrackerInv.tailOk_resp {s : State} (hs : TrackerInv s) (hb : s.busy = false) (hp : s.phase ≠ .halted)
    (cur : CmdWord) {p : Resp} (hn : p.phase = none) (hst : p.status ≠ .fatal) :
    tailOk s.cfg cur s.ft s.usage s.phase [.resp p] = true := by
  simp only [tailOk, respOk, hn]
  cases hph : s.phase with
  | powerOn =>
    obtain ⟨hft, hu⟩ := hs.clear_of_idle hb hph
    simp [hft, hu, hst]
  | configured => simp [hst]
  | halted => exact absurd hph hp

/-- A source's frequency is at most 96 MHz when GEN1's is (R213). -/
theorem sourceFreq_le {ft : Vector Word 8} (h : (ft.get 1).toNat ≤ 96000000) {k : SourceKind} {f : Nat}
    (hk : sourceFreq ft k = some f) : f ≤ 96000000 := by
  cases k <;> simp only [sourceFreq, Option.some.injEq, reduceCtorEq] at hk <;> omega

/-- Everything BRINGUP48 does before its record step spares the tracker (R186). -/
theorem prog48_work_spares (c : Config) (v : Variant) :
    (flashStep c ++ ungateStep ++ oscStep c v ++ seqReset ++ feedStep c v ++ multStep c v ++ switchStep c ++
      prescStep c).all sparesTracker = true := by
  have hmult : (multStep c v).all sparesTracker = true := by
    unfold multStep
    rcases multMulWrite_cases c v with h | ⟨fs, h⟩ <;> rw [h] <;> cases v <;> rfl
  have hrest : (oscStep c v ++ feedStep c v).all sparesTracker = true := by cases v <;> rfl
  rw [List.all_append, Bool.and_eq_true] at hrest
  simp only [List.all_append, hmult, hrest.1, hrest.2, Bool.and_true]
  rfl

/-- BRINGUP48 keeps the rules from a clear tracker in POWER_ON (R185, R186). -/
theorem tailOk_prog48 {c : Config} (hc : c.multRefCh < c.numChannels) (v : Variant) {cur : CmdWord}
    (hcur : fieldOp cur = 1) :
    tailOk c cur (Vector.replicate 8 0) 0 .powerOn (prog48 c v) = true := by
  have hrecord : tailOk c cur (Vector.replicate 8 0) 0 .powerOn (recordStep c v ++ bringupDone) = true := by
    -- what `simp` leaves is about the literal entries of FT
    cases v <;> simp [recordStep, refRecord, bringupDone, tailOk, respOk, hc, hcur] <;> decide
  rw [prog48, List.append_assoc, tailOk_append_of_spares (prog48_work_spares c v)]
  exact hrecord

/-- BRINGUP8 keeps the rules from a clear tracker in POWER_ON (R191, R192). -/
theorem tailOk_prog8 (c : Config) {cur : CmdWord} (hcur : fieldOp cur = 2) :
    tailOk c cur (Vector.replicate 8 0) 0 .powerOn (prog8 c) = true := by
  have hrecord : tailOk c cur (Vector.replicate 8 0) 0 .powerOn ([.setft 0 8000000] ++ bringupDone) = true := by
    have hft : ((Vector.replicate 8 (0 : Word)).set 0 8000000).get 0 = 8000000 := by decide
    simpa [bringupDone, tailOk, respOk, hcur] using Or.inr hft
  rw [prog8, List.append_assoc, tailOk_append_of_spares rfl]
  exact hrecord

/-- CLAIM keeps the rules in CONFIGURED: it records a nonzero frequency of at most 96 MHz in an entry that is 0, or
answers without a record (R214 to R219). -/
theorem tailOk_progClaim {s : State} (hf : ∀ g, (s.ft.get g).toNat ≤ 96000000) (g : GenId) (idc : Bool) (k : SourceKind)
    (d : Nat) {cur : CmdWord} (hcur : fieldOp cur = 4) :
    tailOk s.cfg cur s.ft s.usage .configured (progClaim g idc k d s) = true := by
  have hfatal : ∀ c, tailOk s.cfg cur s.ft s.usage .configured (fatalProg c) = true := fun c => by
    simp [fatalProg, tailOk, respOk, hcur]
  unfold progClaim
  split
  · rfl
  · rename_i hz
    split
    · exact hfatal _
    · split
      · exact hfatal _
      · rename_i fsrc hsrc
        split
        · exact hfatal _
        · rename_i hq
          have hle : fsrc / d ≤ 96000000 := (Nat.div_le_self _ _).trans (sourceFreq_le (hf 1) hsrc)
          have hnat : (BitVec.ofNat 32 (fsrc / d)).toNat = fsrc / d :=
            (BitVec.toNat_ofNat _ _).trans (Nat.mod_eq_of_lt (hle.trans_lt (by decide)))
          have hne : BitVec.ofNat 32 (fsrc / d) ≠ 0#32 := fun h => hq (by rw [← hnat, h]; rfl)
          have hzero : s.ft.get g = 0 := not_not.1 hz
          rw [claimOk, tailOk_append_of_spares rfl]
          simp [tailOk, respOk, handleResp, hzero, hnat, hle, hne]

/-- ENABLE keeps the rules in CONFIGURED: it marks a channel the chip has, or answers without a record (R222 to R224). -/
theorem tailOk_progEnable (ch : Nat) (g : GenId) (s : State) (cur : CmdWord) :
    tailOk s.cfg cur s.ft s.usage .configured (progEnable ch g s) = true := by
  unfold progEnable
  split
  · rfl
  · rename_i hch
    split
    · rfl
    · split
      · rfl
      · simpa [tailOk, respOk, tokenResp, seqChan, seqSync] using hch

/-- In the phase that admits it, every command's micro-program keeps the rules (R21 to R25, R49). -/
theorem TrackerInv.tailOk_commandProg {s : State} (hs : TrackerInv s) (hb : s.busy = false) {i : Instr}
    (hp : s.phase = admittedIn i) {cur : CmdWord} (hcur : fieldOp cur = i.opcode) :
    tailOk s.cfg cur s.ft s.usage s.phase (commandProg i s) = true := by
  cases i with
  | bringup48 v =>
    obtain ⟨hft, hu⟩ := hs.clear_of_idle hb hp
    rw [hft, hu, hp]
    exact tailOk_prog48 (channels_of_configWf hs.instanceOk).2 v hcur
  | bringup8 =>
    obtain ⟨hft, hu⟩ := hs.clear_of_idle hb hp
    rw [hft, hu, hp]
    exact tailOk_prog8 s.cfg hcur
  | lookup g =>
    rw [hp, commandProg, progLookup]
    split <;> rfl
  | claim g idc k d =>
    rw [hp]
    exact tailOk_progClaim hs.freqBound g idc k d hcur
  | enable ch g =>
    rw [hp]
    exact tailOk_progEnable ch g s cur
  | standby g en =>
    rw [hp]
    rfl

/-- Issuing a command keeps the invariant, in the phase that admits it and outside it. -/
theorem TrackerInv.exec {s t : State} (hs : TrackerInv s) (hb : s.busy = false) (hp : s.phase ≠ .halted) {i : Instr}
    (hop : fieldOp (s.cmdHi ++ s.cmdLo) = i.opcode) (h : exec i s = .next t) : TrackerInv t := by
  by_cases hadm : s.phase = admittedIn i
  · rw [exec_eq, inPhase, if_pos hadm] at h
    cases h
    exact hs.issue hb hp (backsOk_commandProg i s) (hs.tailOk_commandProg hb hadm hop)
  · rw [exec_wrongPhase hadm] at h
    cases h
    exact hs.issue hb hp rfl (hs.tailOk_resp hb hp _ rfl nofun)

/-- Issuing any word keeps the invariant. -/
theorem TrackerInv.issueWord {s t : State} (hs : TrackerInv s) (hb : s.busy = false) (hp : s.phase ≠ .halted)
    (h : issueWord s = .next t) : TrackerInv t := by
  rcases issueWord_cases s with ⟨i, hd, he⟩ | ⟨e, -, he⟩
  · exact hs.exec hb hp (fieldOp_of_decode hd) (he.symm.trans h)
  · cases he.symm.trans h
    exact hs.issue hb hp rfl (hs.tailOk_resp hb hp _ rfl nofun)

/-! ### The invariant over a turn -/

/-- Every turn keeps the tracker's invariant. -/
theorem TrackerInv.runTurn {τ : Turn} {s t : State} (hs : TrackerInv s) (h : runTurn τ s = .next t) : TrackerInv t := by
  cases runTurn_effect h with
  | reset _ hsame => exact (trackerInv_of_cleared (s := blockReset s) hs.instanceOk rfl rfl rfl rfl).congr hsame
  | unchanged hsame => exact hs.congr hsame
  | issued v hb hp hi =>
    have hw : TrackerInv { s with cmdLo := v, hostReply := .stored } :=
      hs.congr .mk
    exact hw.issueWord hb hp hi
  | movedOn op _ hop hsp hsame => exact ((trackerInv_move_iff hop hsp).1 hs).congr hsame
  | movedBack r pred back hb hop hsame => exact (hs.movedBack hb hop).congr hsame
  | recordedFreq g v hb hop ht => exact ht ▸ hs.advance_setFt hb hop
  | recordedUse ch hb hop ht => exact ht ▸ hs.advance_setUsage hb hop
  | responded p hb hop ht => exact ht ▸ hs.respond hb hop

theorem TrackerInv.takeTurn {s : State} (hs : TrackerInv s) : TrackerInv (takeTurn s) :=
  hs.congr (sameTracker_takeTurn s)

end Sys2Proof.Machine
end

section
/-! PROOFS: the obligations of the family 10_state.md. -/

namespace Sys2Proof.Machine

/-! ### The tracker (10_state.md sections 2 and 6) -/

/-- Settles O49: the parameters of the reset state are in order and its tracker clear. -/
theorem resetHasTheTrackerInvariant : Obligations.ResetHasTheTrackerInvariant :=
  trackerInv_of_cleared configWf_worked rfl rfl rfl rfl

/-- Settles O50, case by case over what a turn can do to the tracker (`TrackerInv.runTurn`). -/
theorem stepKeepsTheTrackerInvariant : Obligations.StepKeepsTheTrackerInvariant :=
  fun _ _ hs h => hs.takeTurn.runTurn h

/-- Settles O55: only SETUSE and a reset write USAGE, and SETUSE only adds a bit. -/
theorem usageOnlyGrows : Obligations.UsageOnlyGrows := by
  intro s t hτ h c hc
  rw [← (sameTracker_takeTurn s).usage] at hc
  cases step_effect h with
  | reset hreset => simp [hreset] at hτ
  | unchanged hsame => rwa [hsame.usage]
  | issued v _ _ hi =>
    obtain ⟨p, rfl⟩ := issueWord_next hi
    exact hc
  | movedOn _ _ _ _ hsame => rwa [hsame.usage]
  | movedBack _ _ _ _ _ hsame => rwa [hsame.usage]
  | recordedFreq _ _ _ _ ht =>
    rw [ht]
    exact hc
  | recordedUse _ _ _ ht => simp [ht, hc]
  | responded _ _ _ ht =>
    rw [ht]
    exact hc

/-- Settles O56: the invariant admits a SETFT only to an entry that is 0. -/
theorem configuredFrequencyIsNeverRewritten : Obligations.ConfiguredFrequencyIsNeverRewritten := by
  intro s t hs hτ h g hg
  rw [← (sameTracker_takeTurn s).ft] at hg ⊢
  cases step_effect h with
  | reset hreset => simp [hreset] at hτ
  | unchanged hsame => rw [hsame.ft]
  | issued v _ _ hi =>
    obtain ⟨p, rfl⟩ := issueWord_next hi
    rfl
  | movedOn _ _ _ _ hsame => rw [hsame.ft]
  | movedBack _ _ _ _ _ hsame => rw [hsame.ft]
  | recordedFreq k v hb hop ht =>
    obtain ⟨hz, -⟩ := hs.takeTurn.setft hb hop
    have hne : g ≠ k := by
      rintro rfl
      exact hg hz
    rw [ht, advance_ft, setFt_ft, vector_get_set, if_neg hne]
  | recordedUse _ _ _ ht => rw [ht]; rfl
  | responded _ _ _ ht => rw [ht]; rfl

/-- Settles O57: outside a reset only a RESP writes PHASE, and the invariant says which RESP may (`respOk_cases`). -/
theorem phaseTransitions : Obligations.PhaseTransitions := by
  intro s t hs h
  have hsame := sameTracker_takeTurn s
  rw [← hsame.phase, ← hsame.busy, ← hsame.cur]
  cases step_effect h with
  | reset hreset hr => exact .inl ⟨hreset, hr.phase⟩
  | unchanged hu => exact .inr (.inl hu.phase)
  | issued v _ _ hi =>
    obtain ⟨p, rfl⟩ := issueWord_next hi
    exact .inr (.inl rfl)
  | movedOn _ _ _ _ hm => exact .inr (.inl hm.phase)
  | movedBack _ _ _ _ _ hm => exact .inr (.inl hm.phase)
  | recordedFreq _ _ _ _ ht => exact .inr (.inl (ht ▸ rfl))
  | recordedUse _ _ _ ht => exact .inr (.inl (ht ▸ rfl))
  | responded p hb hop ht =>
    subst ht
    rcases respOk_cases (hs.takeTurn.resp hb hop) with ⟨hn, -⟩ | ⟨rfl, hph, hcur, -⟩ | ⟨hn, hst, hph, hcur⟩
    · exact .inr (.inl (by simp [hn]))
    · exact .inr (.inr (.inl ⟨hph, rfl, hb, rfl, rfl, hcur⟩))
    · have hstatus : (respLo p).extractLsb' 0 4 = 3 := by
        rw [respLo_status, hst]
        rfl
      exact .inr (.inr (.inr ⟨hph, by simp [hn], hb, rfl, hstatus, hcur⟩))

/-! ### The host window (10_state.md section 4) -/

/-- Settles O4: the store lands, and the word the window then holds is the decoded one. -/
theorem stepRunsTheDecodedCommand : Obligations.StepRunsTheDecodedCommand := by
  intro s v i hb hp hd
  rw [stepWith_store_cmdLo_free v hb hp, issueWord]
  simp only [hd]

/-- Settles O8: the four clauses are the two cases of a CMD_LO store, the load and the reset value. -/
theorem cmdLoStoreIssuesOrIsDropped : Obligations.CmdLoStoreIssuesOrIsDropped := by
  refine ⟨fun s v hb hp => ?_, fun s v h => stepWith_store_cmdLo_dropped v h,
    fun s => loadReturns_of_windowReg (r := .cmdLo) rfl rfl, rfl⟩
  obtain ⟨p, hi⟩ := issueWord_eq_issue { s with cmdLo := v, hostReply := .stored }
  exact ⟨p, (stepWith_store_cmdLo_free v hb hp).trans hi⟩

/-- Settles O9: the latched word has CMD_HI above the value stored, and a CMD_HI store always lands. -/
theorem cmdHiStoreAlwaysLands : Obligations.CmdHiStoreAlwaysLands := by
  refine ⟨fun s v hb hp => ?_, fun s v => stepWith_store (r := .cmdHi) rfl v,
    fun s => loadReturns_of_windowReg (r := .cmdHi) rfl rfl, rfl⟩
  obtain ⟨p, hi⟩ := issueWord_eq_issue { s with cmdLo := v, hostReply := .stored }
  exact ⟨_, (stepWith_store_cmdLo_free v hb hp).trans hi, BitVec.extractLsb'_append_eq_left⟩

/-- Settles O10: CSR's word as a number, its store, and who sets and clears its fields. -/
theorem csrShowsItsFieldsAndAStoreClearsOnlyDrop : Obligations.CsrShowsItsFieldsAndAStoreClearsOnlyDrop := by
  refine ⟨fun s => loadReturns_of_windowReg (r := .csr) rfl (csrWord_eq_ofNat s), fun s v => ?_,
    fun s v h => ⟨_, stepWith_store_cmdLo_dropped v h, rfl⟩, fun i s t h => ?_, fun s p a hb hop => ?_,
    loadReturns_of_windowReg (r := .csr) rfl rfl⟩
  · rw [stepWith_store (r := .csr) rfl, windowStore, dropAfterCsrWrite_eq]
  · obtain ⟨p, hp⟩ := exec_eq_issue i s
    cases hp.symm.trans h
    rfl
  · exact ⟨respond p s, ctcStep_busy hb hop, rfl⟩

/-- Settles O11: each register names its part of the state, and every part is 0 at reset. -/
theorem responseAndObservationRegistersRead : Obligations.ResponseAndObservationRegistersRead := by
  exact ⟨fun s =>
    ⟨loadReturns_of_windowReg (r := .rspLo) rfl rfl, loadReturns_of_windowReg (r := .rspHi) rfl rfl,
      fun g => loadReturns_of_windowReg (windowReg_freq g) rfl,
      loadReturns_of_windowReg (r := .usageLo) rfl (BitVec.setWidth_eq_extractLsb' (by decide)).symm,
      loadReturns_of_windowReg (r := .usageHi) rfl BitVec.setWidth_ushiftRight_eq_extractLsb.symm⟩,
    loadReturns_of_windowReg (r := .rspLo) rfl rfl, loadReturns_of_windowReg (r := .rspHi) rfl rfl,
    fun g => loadReturns_of_windowReg (windowReg_freq g) (get_clearFt g),
    loadReturns_of_windowReg (r := .usageLo) rfl rfl, loadReturns_of_windowReg (r := .usageHi) rfl rfl⟩

/-- Settles O12: both parameters fit their fields of PARAM. -/
theorem paramReadsTheInstance : Obligations.ParamReadsTheInstance := by
  intro s h
  obtain ⟨hn, hm⟩ := channels_of_configWf h
  exact loadReturns_of_windowReg (r := .param) rfl (paramWord_eq_ofNat (by omega) (by omega))

/-! ### Reset and issue (10_state.md section 6, R45, R48) -/

/-- Settles O14: each of the three states is a block reset's, whatever the gating block holds. -/
theorem resetLeavesTheTabledValues : Obligations.ResetLeavesTheTabledValues := by
  intro s hs
  have hform : ∃ s₀ g, s = { blockReset s₀ with gt := g } := by
    rcases hs with rfl | ⟨s₀, h⟩ | ⟨s₀, h⟩
    · exact ⟨State.reset, State.reset.gt, rfl⟩
    · cases h
      exact ⟨s₀, s₀.gt, rfl⟩
    · cases h
      exact ⟨s₀, .powerOn s₀.cfg, rfl⟩
  obtain ⟨s₀, g, rfl⟩ := hform
  exact ⟨get_clearFt, rfl, rfl, rfl, rfl, rfl, rfl, fun _ => rfl, rfl, rfl, rfl, rfl, rfl, csrWord_eq_ofNat _, rfl⟩

/-- Settles O17: a meaning is an issue, of the command's micro-program or of the WRONG_PHASE response. -/
theorem issueChangesOnlyTheSequencer : Obligations.IssueChangesOnlyTheSequencer := by
  intro i s
  refine ⟨_, ?_, exec_eq i s⟩
  unfold inPhase
  split
  · exact commandProg_ne_nil i s
  · exact nofun

/-- Settles O18: the phase test fails, so the command is issued with a lone RESP. -/
theorem wrongPhaseIsAnsweredIllegal : Obligations.WrongPhaseIsAnsweredIllegal :=
  fun _ _ h => answersAtOnce_of_resp (exec_wrongPhase h)

/-- Settles O28: SETUSE stands first in the micro-program of an ENABLE that passes its checks. -/
theorem enableMarksTheChannelFirst : Obligations.EnableMarksTheChannelFirst := by
  intro ch g s hp hc h64 hf hu
  have hstep : ∀ ops a, ctcStep a (issue (.setuse ch :: ops) s)
      = .next (advance (setUsage ch (issue (.setuse ch :: ops) s))) :=
    fun _ _ => ctcStep_busy (op := .setuse ch) rfl rfl
  exact ⟨_, exec_enable_ok hp hc hf hu, fun a => ⟨_, hstep _ a, by simp [h64], rfl, rfl, rfl⟩⟩

end Sys2Proof.Machine
end

section
/-! PROOFS of the family 20_memory.md: field widths, reads and bus errors.

That every value the port carries is within its width rests on three facts. A field expression that fits evaluates to a
value that fits (`evalVal_lt`); every command's micro-program holds only expressions that fit (`IssuedProg.writesFit`);
and a read is cut to its fields' widths (`mapFits_readReg`). -/

namespace Sys2Proof.Machine

/-! ### Fields within their widths -/

/-- A map fits its register when each field with a width is within it (R75, R78). -/
theorem mapFits_iff {c : Config} {r : Reg} {m : FieldMap} :
    mapFits c r m = true ↔ ∀ f ∈ regFields r, f ≠ .other → fieldOf m f < 2 ^ fieldWidth c r f := by
  simp [mapFits, or_iff_not_imp_left]

theorem calFits_iff {c : Config} {b : CalBuf} :
    calFits c b = true ↔ b.coarse < 2 ^ c.calCoarseW ∧ b.fine < 2 ^ c.calFineW := by
  simp [calFits]

theorem ctlFits_iff {c : Config} {b : GenCtl} :
    ctlFits c b = true ↔
      b.src < 2 ^ fieldWidth c .gtGenctrl .src ∧ b.genen < 2 ^ fieldWidth c .gtGenctrl .genen ∧
      b.idc < 2 ^ fieldWidth c .gtGenctrl .idc ∧ b.oe < 2 ^ fieldWidth c .gtGenctrl .oe ∧
      b.divsel < 2 ^ fieldWidth c .gtGenctrl .divsel ∧ b.runstdby < 2 ^ fieldWidth c .gtGenctrl .runstdby := by
  simp [ctlFits, and_assoc]

theorem chanFits_iff {c : Config} {b : ChanBank} :
    chanFits c b = true ↔ b.gen < 2 ^ fieldWidth c .gtClkctrl .gen ∧ b.clken < 2 ^ fieldWidth c .gtClkctrl .clken := by
  simp [chanFits]

theorem minWidth_le_fieldWidth (c : Config) (r : Reg) (f : RegField) : minWidth c r f ≤ fieldWidth c r f :=
  Nat.le_add_right _ _

/-- A quarter of a `w`-bit value fits `w - 2` bits (R181). -/
theorem div_four_lt {n w : Nat} (h : n < 2 ^ w) : n / 4 < 2 ^ (w - 2) := by
  have hw : 2 ^ w ≤ 4 * 2 ^ (w - 2) :=
    calc 2 ^ w ≤ 2 ^ (2 + (w - 2)) := Nat.pow_le_pow_right (by decide) (by omega)
      _ = 4 * 2 ^ (w - 2) := pow_add 2 2 (w - 2)
  omega

/-- A field expression that fits its field evaluates to a value that does (R75, R81, R181). -/
theorem evalVal_lt {c : Config} {b : CalBuf} {r : Reg} {f : RegField} {v : Val} (hb : calFits c b = true)
    (hf : f ≠ .other) (hv : valFits c r f v = true) : evalVal b v < 2 ^ fieldWidth c r f := by
  obtain ⟨hcoarse, hfine⟩ := calFits_iff.1 hb
  have widen : ∀ {n w : Nat}, n < 2 ^ w → w ≤ fieldWidth c r f → n < 2 ^ fieldWidth c r f :=
    fun hn hw => hn.trans_le (Nat.pow_le_pow_right (by decide) hw)
  simp only [valFits, hf, decide_false, Bool.false_or] at hv
  cases v with
  | lit n => exact of_decide_eq_true hv
  | calCoarse => exact widen hcoarse (of_decide_eq_true hv)
  | calFine => exact widen hfine (of_decide_eq_true hv)
  | calCoarseQuarter => exact widen (div_four_lt hcoarse) (of_decide_eq_true hv)

/-- The listed fields of a write that fits are within their widths. -/
theorem lookup_evalFields_lt {c : Config} {b : CalBuf} {r : Reg} {fs : List (RegField × Val)} (hb : calFits c b = true)
    (hw : ∀ p ∈ fs, valFits c r p.1 p.2 = true) {f : RegField} (hf : f ≠ .other) {n : Nat}
    (hn : (evalFields b fs).lookup f = some n) : n < 2 ^ fieldWidth c r f := by
  rw [lookup_evalFields, Option.map_eq_some_iff] at hn
  obtain ⟨v, hv, rfl⟩ := hn
  obtain ⟨_, _, rfl, -⟩ := List.lookup_eq_some_iff.1 hv
  exact evalVal_lt hb hf (hw (f, v) (by simp))

/-- A calibration read is cut to its widths (R81). -/
theorem calFits_calDraw (c : Config) (a : Answer) : calFits c (calDraw c a) = true :=
  calFits_iff.2 ⟨Nat.mod_lt _ (by positivity), Nat.mod_lt _ (by positivity)⟩

/-! ### Reads -/

/-- A field as read: the module's value where it gives one, else ENV's, cut to the field's width (R78, R80, R256). -/
theorem fieldOf_readReg {s : State} {r : Reg} {f : RegField} (a : Answer) (hf : f ∈ regFields r) :
    fieldOf (readReg r a s) f =
      cutField s.cfg r f (((if s.cfg.gating then gtKnown s.gt r else []).lookup f).getD (fieldOf a.fields f)) :=
  fieldOf_readValue hf

/-- Every field a read returns is within its width (R78). -/
theorem mapFits_readReg (r : Reg) (a : Answer) (s : State) : mapFits s.cfg r (readReg r a s) = true :=
  mapFits_iff.2 fun _ hf ho => by
    rw [fieldOf_readReg a hf]
    exact cutField_lt ho _

/-- A field to which the module gives a value within its width is read as that value (R256, R265). -/
theorem fieldOf_readReg_known {s : State} {r : Reg} {f : RegField} {v : Nat} {m : FieldMap} (a : Answer)
    (hg : s.cfg.gating = true) (hk : gtKnown s.gt r = m) (hf : f ∈ regFields r) (hl : m.lookup f = some v)
    (hv : v < 2 ^ fieldWidth s.cfg r f) : fieldOf (readReg r a s) f = v := by
  rw [fieldOf_readReg a hf, if_pos hg, hk, hl]
  exact cutField_of_lt hv

/-- A flag fits a field of one bit or more (R77). -/
theorem toNat_lt_fieldWidth {c : Config} {r : Reg} {f : RegField} (b : Bool) (h : minWidth c r f = 1) :
    b.toNat < 2 ^ fieldWidth c r f :=
  lt_fieldWidth (by rw [h]; exact b.toNat_lt)

/-- With the gate open and nothing in flight, GT.GENCTRL shows the selected generator bank (R256). -/
theorem gtKnown_gtGenctrl {g : GtState} (hg : g.gten = true) (hb : g.syncbusy = false) :
    gtKnown g .gtGenctrl = genctrlFields g := by
  simp [gtKnown, hg, hb]

/-- With the gate open and nothing in flight, GT.CLKCTRL shows the selected channel bank (R256). -/
theorem gtKnown_gtClkctrl {g : GtState} (hg : g.gten = true) (hb : g.syncbusy = false) (hc : g.selCh < 64) :
    gtKnown g .gtClkctrl =
      [(.ident, g.selCh), (.gen, g.chans[g.selCh].gen), (.clken, g.chans[g.selCh].clken)] := by
  simp [gtKnown, clkctrlFields, hg, hb, hc]

/-! ### What the writes carry -/

theorem valFits_of_writeFits {c : Config} {r : Reg} {fs : List (RegField × Val)} (h : writeFits c (.wr r fs) = true)
    (p : RegField × Val) (hp : p ∈ fs) : valFits c r p.1 p.2 = true := by
  simp only [writeFits, List.all_eq_true, Bool.and_eq_true] at h
  exact (h p hp).2

/-- A full write whose listed values fit carries only values that fit (R75). -/
theorem mapFits_fullWrite {c : Config} {b : CalBuf} {r : Reg} {fs : List (RegField × Val)} (hb : calFits c b = true)
    (hw : writeFits c (.wr r fs) = true) : mapFits c r (fullWrite r (evalFields b fs)) = true := by
  refine mapFits_iff.2 fun f hf ho => ?_
  rw [fieldOf_fullWrite hf, fieldOf]
  cases hn : (evalFields b fs).lookup f with
  | none => exact Nat.two_pow_pos _
  | some n => exact lookup_evalFields_lt hb (valFits_of_writeFits hw) ho hn

/-- A modifying write whose listed values fit, over a buffer that fits, carries only values that fit (R79). -/
theorem mapFits_modifyWrite {c : Config} {b : CalBuf} {r : Reg} {fs : List (RegField × Val)} {buf : FieldMap}
    (hb : calFits c b = true) (hw : writeFits c (.wrm r fs) = true) (hbuf : mapFits c r buf = true) :
    mapFits c r (modifyWrite r (evalFields b fs) buf) = true := by
  refine mapFits_iff.2 fun f hf ho => ?_
  rw [fieldOf_modifyWrite hf]
  cases hn : (evalFields b fs).lookup f with
  | none => exact mapFits_iff.1 hbuf f hf ho
  | some n => exact lookup_evalFields_lt hb (valFits_of_writeFits hw) ho hn

/-! ### Bus errors -/

/-- The registers no store may reach (R35, R36, R38 to R41). -/
def readOnly : WinReg → Bool
  | .cmdLo | .cmdHi | .csr => false
  | .rspLo | .rspHi | .freq _ | .usageLo | .usageHi | .param => true

/-- A store to a read-only register is a bus error (R41, R73). -/
theorem windowStore_readOnly {r : WinReg} (h : readOnly r = true) (v : Word) (s : State) :
    windowStore r v s = .fault (.hostBusError .readOnly) := by
  cases r with
  | cmdLo | cmdHi | csr => cases h
  | rspLo | rspHi | freq _ | usageLo | usageHi | param => rfl

/-- A CMD_LO store always takes effect, dropped or issued (R33). -/
theorem storeCmdLo_eq_next (v : Word) (s : State) : ∃ t, storeCmdLo v s = .next t := by
  rcases storeCmdLo_cases v s with ⟨-, h⟩ | ⟨-, -, h⟩
  · exact ⟨_, h⟩
  · obtain ⟨p, hp⟩ := issueWord_eq_issue { s with cmdLo := v }
    exact ⟨_, h.trans hp⟩

/-- A store to any other register takes effect (R33, R34, R37). -/
theorem windowStore_writable {r : WinReg} (h : readOnly r = false) (v : Word) (s : State) :
    ∃ t, windowStore r v s = .next t := by
  cases r with
  | cmdLo => exact storeCmdLo_eq_next v _
  | cmdHi | csr => exact ⟨_, rfl⟩
  | rspLo | rspHi | freq _ | usageLo | usageHi | param => cases h

/-- The reserved ones among the window's aligned offsets (R41). -/
theorem windowReg_eq_none_iff :
    ∀ off < 0x80, off % 4 = 0 → (windowReg off = none ↔ (0x14 ≤ off ∧ off < 0x20) ∨ 0x4C ≤ off) := by
  decide

/-- Where the read-only registers stand (R35, R36, R38 to R41). -/
theorem readOnly_iff_of_windowReg {off : Nat} {r : WinReg} (h : windowReg off = some r) :
    readOnly r = true ↔ off = 0x08 ∨ off = 0x0C ∨ (0x20 ≤ off ∧ off < 0x4C) := by
  unfold windowReg at h
  split at h <;> cases h <;> decide

/-- An access that reaches a register is a bus error exactly when it stores to a read-only one (R73). -/
theorem windowAccess_mapped {a : HostAccess} {off : Nat} {r : WinReg} (hw : a.width = 32) (hal : off % 4 = 0)
    (hr : windowReg off = some r) (s : State) :
    (a.store = true ∧ readOnly r = true → ∃ k, windowAccess a off s = .fault (.hostBusError k)) ∧
    (¬ (a.store = true ∧ readOnly r = true) → ∃ t, windowAccess a off s = .next t) := by
  have hreg : windowAccess a off s =
      if a.store then windowStore r a.data s else .next { s with hostReply := .loaded (windowValue r s) } := by
    simp [windowAccess, hw, hal, hr]
  rw [hreg]
  cases hst : a.store with
  | false => exact ⟨fun h => absurd h.1 nofun, fun _ => ⟨_, rfl⟩⟩
  | true =>
    exact ⟨fun h => ⟨_, windowStore_readOnly h.2 a.data s⟩,
      fun h => windowStore_writable (by simpa using h) a.data s⟩

end Sys2Proof.Machine
end

section
/-! PROOFS: the micro-programs that words are issued with, and what holds of all of them (20_memory.md section 2). -/

namespace Sys2Proof.Machine

/-! ### The parameters -/

/-- What `configWf` says of the values that the micro-programs and chip power-on write (R75, R181, R251, R252). -/
structure ParamsFit (c : Config) : Prop where
  channels : c.numChannels ≤ 64
  refChannel : c.multRefCh < c.numChannels
  flash : c.flashWs48m < 2 ^ fieldWidth c .flashCtrl .rws
  startupInt : c.startupInt32k < 2 ^ fieldWidth c .oscInt32k .startup
  startupExt : c.startupExt32k < 2 ^ fieldWidth c .oscExt32k .startup
  presc : c.prescDiv1 < 2 ^ fieldWidth c .oscRc8m .presc
  cpuDiv : c.div1 < 2 ^ fieldWidth c .busCpudiv .div
  aDiv : c.div1 < 2 ^ fieldWidth c .busAdiv .div
  bDiv : c.div1 < 2 ^ fieldWidth c .busBdiv .div
  cDiv : c.div1 < 2 ^ fieldWidth c .busCdiv .div
  source : ∀ k, srcCode c k < 2 ^ fieldWidth c .gtGenctrl .src
  coarseStep : c.calCoarseW - 2 ≤ fieldWidth c .oscMultMul .cstep
  genPorDiv : ∀ g, (c.genPor.get g).div < 2 ^ divWidth g
  genPorCtl : ∀ g, ctlFits c (c.genPor.get g).ctl = true
  chPor : ∀ k, chanFits c (c.chPor.get k) = true

theorem paramsFit_of_configWf {c : Config} (h : configWf c = true) : ParamsFit c := by
  simp only [configWf, Bool.and_eq_true, decide_eq_true_eq, and_assoc, List.all_eq_true, List.mem_finRange,
    forall_const] at h
  obtain ⟨-, hn, hm, -, hfl, hsi, hse, hp, hc, ha, hb, hd, hsrc, hstep, hdiv, hctl, hch⟩ := h
  exact ⟨hn, hm, hfl, hsi, hse, hp, hc, ha, hb, hd, fun k => hsrc k.number, hstep, hdiv, hctl, hch⟩

/-! ### The micro-programs -/

/-- The micro-programs that any word is issued with: a lone RESP, or what an admitted command does once it passed its
checks (R110, R141, R185, R191, R219, R224, R227). -/
inductive IssuedProg (c : Config) : List MicroOp → Prop
  | answer (p : Resp) : IssuedProg c [.resp p]
  | bringup48 (v : Variant) : IssuedProg c (prog48 c v)
  | bringup8 : IssuedProg c (prog8 c)
  | claim (g : GenId) (d : Nat) (k : SourceKind) (idc : Bool) (f : Word) (h : legalDivider g d = true) :
      IssuedProg c (seqGen c g d k idc ++ [.setft g f, .resp (handleResp g f)])
  | enable (ch : Nat) (g : GenId) (f : Word) (h : ch < c.numChannels) :
      IssuedProg c ([.setuse ch] ++ seqChan ch g ++ [.resp (tokenResp ch f)])
  | standby (g : GenId) (en : Bool) : IssuedProg c (progStandby g en)

theorem issuedProg_progClaim (g : GenId) (idc : Bool) (k : SourceKind) (d : Nat) (s : State) :
    IssuedProg s.cfg (progClaim g idc k d s) := by
  unfold progClaim
  split
  · exact .answer _
  · split
    · exact .answer _
    · rename_i hd
      split
      · exact .answer _
      · split
        · exact .answer _
        · exact .claim g d k idc _ (by simpa using hd)

theorem issuedProg_progEnable (ch : Nat) (g : GenId) (s : State) : IssuedProg s.cfg (progEnable ch g s) := by
  unfold progEnable
  split
  · exact .answer _
  · rename_i hch
    split
    · exact .answer _
    · split
      · exact .answer _
      · exact .enable ch g _ (Nat.not_le.1 hch)

theorem issuedProg_commandProg (i : Instr) (s : State) : IssuedProg s.cfg (commandProg i s) := by
  cases i with
  | bringup48 v => exact .bringup48 v
  | bringup8 => exact .bringup8
  | lookup g =>
    rw [commandProg, progLookup]
    split <;> exact .answer _
  | claim g idc k d => exact issuedProg_progClaim g idc k d s
  | enable ch g => exact issuedProg_progEnable ch g s
  | standby g en => exact .standby g en

/-- A command's issue starts one of these micro-programs, in the phase that admits it and outside it (R113, R141). -/
theorem exec_issuedProg {i : Instr} {s t : State} (h : exec i s = .next t) :
    ∃ p, IssuedProg s.cfg p ∧ t = issue p s := by
  rw [exec_eq] at h
  refine ⟨_, ?_, (Host.Outcome.next.inj h).symm⟩
  unfold inPhase
  split
  · exact issuedProg_commandProg i s
  · exact .answer _

/-- The issue of any word starts one of these micro-programs (R110, R141). -/
theorem issueWord_issuedProg {s t : State} (h : issueWord s = .next t) : ∃ p, IssuedProg s.cfg p ∧ t = issue p s := by
  rcases issueWord_cases s with ⟨i, -, he⟩ | ⟨e, -, he⟩
  · exact exec_issuedProg (he.symm.trans h)
  · exact ⟨_, .answer _, (Host.Outcome.next.inj (he.symm.trans h)).symm⟩

/-! ### The writes of a micro-program fit -/

theorem valFits_lit {c : Config} {r : Reg} {f : RegField} {n : Nat} (h : n < 2 ^ fieldWidth c r f) :
    valFits c r f (.lit n) = true := by
  simp [valFits, h]

/-- A literal within its field's minimum width fits in every layout (R77). -/
theorem valFits_lit_of_minWidth {c : Config} {r : Reg} {f : RegField} {n : Nat} (h : n < 2 ^ minWidth c r f) :
    valFits c r f (.lit n) = true :=
  valFits_lit (lt_fieldWidth h)

theorem valFits_toNat {c : Config} {r : Reg} {f : RegField} (b : Bool) (h : minWidth c r f = 1) :
    valFits c r f (.lit b.toNat) = true :=
  valFits_lit (toNat_lt_fieldWidth b h)

/-- The same parameters with every field at its minimum width (R77). -/
def minLayout (c : Config) : Config := { c with extraBits := [] }

theorem fieldWidth_minLayout_le (c : Config) (r : Reg) (f : RegField) :
    fieldWidth (minLayout c) r f ≤ fieldWidth c r f :=
  minWidth_le_fieldWidth c r f

/-- What fits a field at its minimum width fits it in every layout (R12, R77). -/
theorem valFits_of_minLayout {c : Config} {r : Reg} {f : RegField} {v : Val} (h : valFits (minLayout c) r f v = true) :
    valFits c r f v = true := by
  have hle := fieldWidth_minLayout_le c r f
  simp only [valFits, Bool.or_eq_true] at h ⊢
  refine h.imp_right fun hv => ?_
  cases v with
  | lit n => exact decide_eq_true ((of_decide_eq_true hv).trans_le (Nat.pow_le_pow_right (by decide) hle))
  | calCoarse | calFine | calCoarseQuarter => exact decide_eq_true ((of_decide_eq_true hv).trans hle)

theorem writeFits_of_minLayout {c : Config} {op : MicroOp} (h : writeFits (minLayout c) op = true) :
    writeFits c op = true := by
  cases op with
  | wr r fs | wrm r fs =>
    simp only [writeFits, List.all_eq_true, Bool.and_eq_true] at h ⊢
    exact fun p hp => ⟨(h p hp).1, valFits_of_minLayout (h p hp).2⟩
  | wr8 _ _ | rd _ | poll _ _ _ | cal | setft _ _ | setuse _ | resp _ => exact h

/-- Constants that fit the minimum widths are checked there, by computation. -/
theorem all_writeFits_of_minLayout {c : Config} {p : List MicroOp} (h : p.all (writeFits (minLayout c)) = true) :
    p.all (writeFits c) = true :=
  List.all_eq_true.2 fun op hop => writeFits_of_minLayout (List.all_eq_true.1 h op hop)

@[simp] theorem writeFits_poll (c : Config) (r : Reg) (pred : List (RegField × Nat)) (back : Nat) :
    writeFits c (.poll r pred back) = true := rfl
@[simp] theorem writeFits_rd (c : Config) (r : Reg) : writeFits c (.rd r) = true := rfl
@[simp] theorem writeFits_setft (c : Config) (g : GenId) (v : Word) : writeFits c (.setft g v) = true := rfl
@[simp] theorem writeFits_setuse (c : Config) (ch : Nat) : writeFits c (.setuse ch) = true := rfl
@[simp] theorem writeFits_resp (c : Config) (p : Resp) : writeFits c (.resp p) = true := rfl

/-- A full write fits when its first field does and the write of the rest does. -/
theorem writeFits_wr_cons {c : Config} {r : Reg} {f : RegField} {v : Val} {fs : List (RegField × Val)}
    (hf : f ∈ regFields r) (hv : valFits c r f v = true) (h : writeFits c (.wr r fs) = true) :
    writeFits c (.wr r ((f, v) :: fs)) = true := by
  simpa [writeFits, hf, hv] using h

theorem seqModify_writesFit {c : Config} {r : Reg} {f : RegField} {v : Nat} (hf : f ∈ regFields r)
    (hv : v < 2 ^ fieldWidth c r f) : (seqModify r f v).all (writeFits c) = true := by
  simp [seqModify, writeFits, hf, valFits_lit hv]

theorem seqGen_writesFit {c : Config} (hc : ParamsFit c) (g : GenId) {d : Nat} (hd : d < 2 ^ 16) (k : SourceKind)
    (idc : Bool) : (seqGen c g d k idc).all (writeFits c) = true := by
  have hdiv : writeFits c (.wr .gtGendiv [(.ident, .lit g), (.div, .lit d)]) = true :=
    writeFits_wr_cons (by decide) (valFits_lit_of_minWidth g.isLt) <|
      writeFits_wr_cons (by decide) (valFits_lit_of_minWidth hd) rfl
  have hctl : writeFits c (.wr .gtGenctrl [(.ident, .lit g), (.src, .lit (srcCode c k)), (.genen, .lit 1),
      (.idc, .lit idc.toNat), (.oe, .lit 1), (.divsel, .lit 0)]) = true :=
    writeFits_wr_cons (by decide) (valFits_lit_of_minWidth g.isLt) <|
      writeFits_wr_cons (by decide) (valFits_lit (hc.source k)) <| by
        cases idc <;> exact writeFits_of_minLayout rfl
  simp [seqGen, seqSync, hdiv, hctl]

theorem seqChan_writesFit (c : Config) {ch : Nat} (h : ch < 64) (g : GenId) :
    (seqChan ch g).all (writeFits c) = true := by
  have hchan : writeFits c (.wr .gtClkctrl [(.ident, .lit ch), (.gen, .lit g), (.clken, .lit 1)]) = true :=
    writeFits_wr_cons (by decide) (valFits_lit_of_minWidth h) <|
      writeFits_wr_cons (by decide) (valFits_lit_of_minWidth g.isLt) (writeFits_of_minLayout rfl)
  simp [seqChan, seqSync, hchan]

theorem progStandby_writesFit (c : Config) (g : GenId) (en : Bool) : (progStandby g en).all (writeFits c) = true := by
  have hselect : writeFits c (.wr8 .gtGenctrl g) = true := decide_eq_true (by omega)
  have hrun : writeFits c (.wrm .gtGenctrl [(.runstdby, .lit en.toNat)]) = true := by
    cases en <;> exact writeFits_of_minLayout rfl
  simp [progStandby, seqStby, seqSync, hselect, hrun]

theorem oscStep_writesFit {c : Config} (hc : ParamsFit c) (v : Variant) : (oscStep c v).all (writeFits c) = true := by
  have start : ∀ {r n e}, regFields r = [.enable, .startup, .other] → minWidth c r .enable = 1 →
      n < 2 ^ fieldWidth c r .startup →
      writeFits c (.wr r [(.enable, .lit 1), (.startup, .lit n), (.other, .lit e)]) = true := fun hr h1 hn =>
    writeFits_wr_cons (by simp [hr]) (valFits_toNat true h1) <|
      writeFits_wr_cons (by simp [hr]) (valFits_lit hn) <| writeFits_wr_cons (by simp [hr]) rfl rfl
  cases v with
  | int32k => simp [oscStep, start rfl rfl hc.startupInt]
  | ext32k => simp [oscStep, start rfl rfl hc.startupExt]
  | usb | openLoop => rfl

theorem feedStep_writesFit {c : Config} (hc : ParamsFit c) (v : Variant) : (feedStep c v).all (writeFits c) = true := by
  have hgen := fun k => seqGen_writesFit hc 1 (d := 1) (by decide) k false
  have hchan := seqChan_writesFit c (hc.refChannel.trans_le hc.channels) 1
  cases v with
  | int32k | ext32k => rw [feedStep, List.all_append, hgen, hchan]; rfl
  | usb | openLoop => rfl

theorem multMulWrite_writesFit {c : Config} (hc : ParamsFit c) (v : Variant) :
    (multMulWrite c v).all (writeFits c) = true := by
  cases v with
  | int32k =>
    have hquarter : valFits c .oscMultMul .cstep .calCoarseQuarter = true := decide_eq_true hc.coarseStep
    have hwrite : writeFits c
        (.wr .oscMultMul [(.mul, .lit 1464), (.cstep, .calCoarseQuarter), (.fstep, .lit 10)]) = true :=
      writeFits_wr_cons (by decide) (valFits_of_minLayout rfl) <|
        writeFits_wr_cons (by decide) hquarter (writeFits_of_minLayout rfl)
    simp [multMulWrite, hwrite]
  | ext32k | usb => exact all_writeFits_of_minLayout rfl
  | openLoop =>
    rw [multMulWrite]
    split <;> exact all_writeFits_of_minLayout rfl

theorem multStep_writesFit {c : Config} (hc : ParamsFit c) (v : Variant) : (multStep c v).all (writeFits c) = true := by
  have hval : writeFits c (.wr .oscMultVal [(.coarse, .calCoarse), (.fine, .calFine)]) = true :=
    writeFits_wr_cons (by decide) (decide_eq_true (minWidth_le_fieldWidth c .oscMultVal .coarse)) <|
      writeFits_wr_cons (by decide) (decide_eq_true (minWidth_le_fieldWidth c .oscMultVal .fine)) rfl
  have hdemand : writeFits c (.wr .oscMultCtrl [(.ondemand, .lit 0)]) = true := writeFits_of_minLayout rfl
  have hmode : writeFits c (.wr .oscMultCtrl (modeFlags v)) = true := by cases v <;> exact writeFits_of_minLayout rfl
  have henable : (seqModify .oscMultCtrl .enable 1).all (writeFits c) = true := all_writeFits_of_minLayout rfl
  have hlock : (lockPoll v).all (writeFits c) = true := by cases v <;> rfl
  simp only [multStep, waitReady, List.all_append, List.all_cons, hval, hdemand, hmode, henable, hlock,
    multMulWrite_writesFit hc v]
  rfl

theorem prescStep_writesFit {c : Config} (hc : ParamsFit c) : (prescStep c).all (writeFits c) = true := by
  have hpresc : (seqModify .oscRc8m .presc c.prescDiv1).all (writeFits c) = true :=
    seqModify_writesFit (by decide) hc.presc
  have bus : ∀ {r}, .div ∈ regFields r → c.div1 < 2 ^ fieldWidth c r .div →
      writeFits c (.wr r [(.div, .lit c.div1)]) = true := fun hr h => writeFits_wr_cons hr (valFits_lit h) rfl
  simp [prescStep, hpresc, bus (by decide) hc.cpuDiv, bus (by decide) hc.aDiv, bus (by decide) hc.bDiv,
    bus (by decide) hc.cDiv]

theorem prog48_writesFit {c : Config} (hc : ParamsFit c) (v : Variant) : (prog48 c v).all (writeFits c) = true := by
  have hflash : (flashStep c).all (writeFits c) = true := seqModify_writesFit (by decide) hc.flash
  have hungate : ungateStep.all (writeFits c) = true := all_writeFits_of_minLayout rfl
  have hreset : seqReset.all (writeFits c) = true := all_writeFits_of_minLayout rfl
  have hswitch : (switchStep c).all (writeFits c) = true := seqGen_writesFit hc 0 (by decide) .mult48m true
  have hrecord : (recordStep c v).all (writeFits c) = true := by cases v <;> rfl
  simp only [prog48, List.all_append, hflash, hungate, oscStep_writesFit hc, hreset, feedStep_writesFit hc,
    multStep_writesFit hc, hswitch, prescStep_writesFit hc, hrecord]
  rfl

theorem prog8_writesFit {c : Config} (hc : ParamsFit c) : (prog8 c).all (writeFits c) = true := by
  have hungate : ungateStep.all (writeFits c) = true := all_writeFits_of_minLayout rfl
  have hreset : seqReset.all (writeFits c) = true := all_writeFits_of_minLayout rfl
  have hgen := seqGen_writesFit hc 0 (d := 1) (by decide) .rc8m false
  simp only [prog8, List.all_append, hungate, hreset, hgen, prescStep_writesFit hc]
  rfl

/-- A legal divider fits the 16 bits of GT.GENDIV's DIV (R8, R77). -/
theorem lt_of_legalDivider {g : GenId} {d : Nat} (h : legalDivider g d = true) : d < 2 ^ 16 := by
  have hmax : ∀ g, maxDiv g < 2 ^ 16 := by decide
  simp only [legalDivider, Bool.and_eq_true, decide_eq_true_eq] at h
  exact h.2.trans_lt (hmax g)

/-- Whatever word is issued, its micro-program writes only values that fit (R75, R76, R181). -/
theorem IssuedProg.writesFit {c : Config} (hc : ParamsFit c) {p : List MicroOp} (h : IssuedProg c p) :
    p.all (writeFits c) = true := by
  cases h with
  | answer p => rfl
  | bringup48 v => exact prog48_writesFit hc v
  | bringup8 => exact prog8_writesFit hc
  | claim g d k idc f hd => simp [seqGen_writesFit hc g (lt_of_legalDivider hd)]
  | enable ch g f hch => simp [seqChan_writesFit c (hch.trans_le hc.channels)]
  | standby g en => exact progStandby_writesFit c g en

/-! ### A WRM stands right after the RD of its register -/

/-- The register an operation leaves in MODBUF for a WRM right after it (R144). -/
def readsFor : MicroOp → Option Reg
  | .rd r => some r
  | .wr _ _ | .wr8 _ _ | .wrm _ _ | .poll _ _ _ | .cal | .setft _ _ | .setuse _ | .resp _ => none

theorem readsFor_eq_some {op : MicroOp} {r : Reg} : readsFor op = some r ↔ op = .rd r := by
  cases op <;> simp [readsFor]

theorem modifiesOk_tail {last : Option Reg} {op : MicroOp} {ops : List MicroOp}
    (h : modifiesOk last (op :: ops) = true) : modifiesOk (readsFor op) ops = true := by
  cases op with
  | wrm r fs =>
    simp only [modifiesOk, Bool.and_eq_true] at h
    exact h.2
  | wr _ _ | wr8 _ _ | rd _ | poll _ _ _ | cal | setft _ _ | setuse _ | resp _ => exact h

/-- Only a WRM minds what was read before it. -/
theorem modifiesOk_of_none {last : Option Reg} {p : List MicroOp} (h : modifiesOk none p = true) :
    modifiesOk last p = true := by
  cases p with
  | nil => rfl
  | cons op ops =>
    cases op with
    | wrm r fs => simp [modifiesOk] at h
    | wr _ _ | wr8 _ _ | rd _ | poll _ _ _ | cal | setft _ _ | setuse _ | resp _ => exact h

theorem modifiesOk_append {last : Option Reg} {p q : List MicroOp} (hp : modifiesOk last p = true)
    (hq : modifiesOk none q = true) : modifiesOk last (p ++ q) = true := by
  induction p generalizing last with
  | nil => exact modifiesOk_of_none hq
  | cons op ops ih =>
    cases op with
    | wrm r fs =>
      simp only [modifiesOk, Bool.and_eq_true] at hp
      simp only [List.cons_append, modifiesOk, Bool.and_eq_true]
      exact ⟨hp.1, ih hp.2⟩
    | wr _ _ | wr8 _ _ | rd _ | poll _ _ _ | cal | setft _ _ | setuse _ | resp _ => exact ih (modifiesOk_tail hp)

/-- In a disciplined micro-program the operation before a WRM is the RD of its register (R144). -/
theorem rd_before_wrm {last : Option Reg} {p : List MicroOp} (h : modifiesOk last p = true) {k : Nat} {r : Reg}
    {fs : List (RegField × Val)} (hk : p[k]? = some (.wrm r fs)) :
    (k = 0 ∧ last = some r) ∨ ∃ j, k = j + 1 ∧ p[j]? = some (.rd r) := by
  induction p generalizing last k with
  | nil => simp at hk
  | cons op ops ih =>
    cases k with
    | zero =>
      obtain rfl : op = .wrm r fs := by simpa using hk
      simp only [modifiesOk, Bool.and_eq_true, decide_eq_true_eq] at h
      exact .inl ⟨rfl, h.1⟩
    | succ k =>
      rcases ih (modifiesOk_tail h) (by simpa using hk) with ⟨rfl, hop⟩ | ⟨j, rfl, hj⟩
      · exact .inr ⟨0, rfl, by simp [readsFor_eq_some.1 hop]⟩
      · exact .inr ⟨j + 1, rfl, by simpa using hj⟩

theorem modifiesOk_prog48 (c : Config) (v : Variant) : modifiesOk none (prog48 c v) = true := by
  have pre : modifiesOk none (flashStep c ++ ungateStep ++ oscStep c v ++ seqReset ++ feedStep c v) = true := by
    cases v <;> rfl
  have mult : modifiesOk none (multStep c v) = true := by
    unfold multStep
    rcases multMulWrite_cases c v with h | ⟨fs, h⟩ <;> rw [h] <;> cases v <;> rfl
  have post : modifiesOk none (switchStep c ++ prescStep c ++ recordStep c v ++ bringupDone) = true := by
    cases v <;> rfl
  simpa [prog48] using modifiesOk_append pre (modifiesOk_append mult post)

/-- Whatever word is issued, each WRM of its micro-program stands right after the RD of its register (R144). -/
theorem IssuedProg.modifiesOk {c : Config} {p : List MicroOp} (h : IssuedProg c p) : modifiesOk none p = true := by
  cases h with
  | bringup48 v => exact modifiesOk_prog48 c v
  | answer _ | bringup8 | claim _ _ _ _ _ _ | enable _ _ _ _ | standby _ _ => rfl

/-- Whatever word is issued, the polls' targets stay in its micro-program (R143). -/
theorem IssuedProg.backsOk {c : Config} {p : List MicroOp} (h : IssuedProg c p) : backsOk false p = true := by
  cases h with
  | bringup48 v => exact backsOk_prog48 c v
  | answer _ | bringup8 | claim _ _ _ _ _ _ | enable _ _ _ _ | standby _ _ => rfl

end Sys2Proof.Machine
end

section
/-! PROOFS: the gating block's invariant (43_gating_block.md section 1).

`BlockInv` is the part that speaks of the block alone, kept by each of the block's operations; the rest is kept by each
micro-operation, and MPC goes to a WRM only from the RD before it. -/

namespace Sys2Proof.Machine

/-! ### The gating block -/

/-- What the gating block's invariant says of the block alone (R250, R251). -/
structure BlockInv (c : Config) (g : GtState) : Prop where
  busyIffPending : g.syncbusy = g.pending.isSome
  resetIffPending : g.swrst = decide (g.pending = some .reset)
  selected : g.selCh < c.numChannels
  dividers : ∀ k, (g.gens.get k).div < 2 ^ divWidth k
  genFits : ∀ k, ctlFits c (g.gens.get k).ctl = true
  channelFits : ∀ k, chanFits c (g.chans.get k) = true
  pendingFits : ∀ u, g.pending = some u → updateFits c u = true

/-- Chip power-on gives the block its invariant, in a well-formed configuration (R252). -/
theorem blockInv_powerOn {c : Config} (hc : ParamsFit c) : BlockInv c (.powerOn c) where
  busyIffPending := rfl
  resetIffPending := rfl
  selected := Nat.zero_lt_of_lt hc.refChannel
  dividers := hc.genPorDiv
  genFits := hc.genPorCtl
  channelFits := hc.chPor
  pendingFits := nofun

/-- The gate is no part of the invariant (R265). -/
theorem BlockInv.setGate {c : Config} {g : GtState} (hg : BlockInv c g) (b : Bool) : BlockInv c { g with gten := b } :=
  { hg with }

/-- An update that fits may be recorded (R253, R255). -/
theorem BlockInv.recordUpdate {c : Config} {g g' : GtState} {u : Option Update} (hg : BlockInv c g)
    (hu : ∀ v, u = some v → updateFits c v = true) (h : recordUpdate u g = .ok g') : BlockInv c g' := by
  unfold Machine.recordUpdate at h
  split at h
  · cases h
  · split at h
    · cases u with
      | none => exact Except.ok.inj h ▸ hg
      | some v =>
        obtain rfl := Except.ok.inj h
        exact
          { hg with
            busyIffPending := rfl
            resetIffPending := by simp
            pendingFits := fun w hw => hu w hw }
    · exact Except.ok.inj h ▸ hg

/-- The update of a full write that fits, fits (R255). -/
theorem updateFits_writeUpdate {c : Config} {r : Reg} {m : FieldMap} (hm : mapFits c r m = true) {u : Update}
    (h : writeUpdate r m = some u) : updateFits c u = true := by
  rw [mapFits_iff] at hm
  cases r with
  | gtCtrl =>
    simp only [writeUpdate] at h
    split at h <;> cases h
    rfl
  | gtGendiv =>
    cases h
    rfl
  | gtGenctrl =>
    cases h
    exact ctlFits_iff.2 ⟨hm .src (by decide) nofun, hm .genen (by decide) nofun, hm .idc (by decide) nofun,
      hm .oe (by decide) nofun, hm .divsel (by decide) nofun, hm .runstdby (by decide) nofun⟩
  | gtClkctrl =>
    cases h
    exact chanFits_iff.2 ⟨hm .gen (by decide) nofun, hm .clken (by decide) nofun⟩
  | gtStatus | oscInt32k | oscExt32k | oscRc8m | oscStatus | oscMultCtrl | oscMultVal | oscMultMul | busMask | busCpudiv
  | busAdiv | busBdiv | busCdiv | flashCtrl => cases h

/-- The update of an 8-bit write fits, the free one being cut (R255, assumption 13). -/
theorem updateFits_writeUpdate8 {c : Config} {r : Reg} {v : Nat} {free : Option Update} {u : Update}
    (h : writeUpdate8 r v (free.map (cutUpdate c)) = some u) : updateFits c u = true := by
  have hfree : free.map (cutUpdate c) = some u → updateFits c u = true := fun h => by
    obtain ⟨w, -, rfl⟩ := Option.map_eq_some_iff.1 h
    exact updateFits_cutUpdate c w
  cases r with
  | gtCtrl | gtGendiv => exact hfree h
  | gtGenctrl | gtClkctrl =>
    cases h
    rfl
  | gtStatus | oscInt32k | oscExt32k | oscRc8m | oscStatus | oscMultCtrl | oscMultVal | oscMultMul | busMask | busCpudiv
  | busAdiv | busBdiv | busCdiv | flashCtrl => cases h

theorem BlockInv.gtWrite {c : Config} {g g' : GtState} {r : Reg} {m : FieldMap} (hg : BlockInv c g)
    (hm : mapFits c r m = true) (h : gtWrite r m g = .ok g') : BlockInv c g' := by
  unfold Machine.gtWrite at h
  split at h
  · exact hg.recordUpdate (fun _ => updateFits_writeUpdate hm) h
  · split at h <;> obtain rfl := Except.ok.inj h
    · exact hg.setGate _
    · exact hg

theorem BlockInv.gtWrite8 {c : Config} {g g' : GtState} {r : Reg} {v : Nat} {free : Option Update} {gate : Bool}
    (hg : BlockInv c g) (h : gtWrite8 r v (free.map (cutUpdate c)) gate g = .ok g') : BlockInv c g' := by
  unfold Machine.gtWrite8 at h
  split at h
  · exact hg.recordUpdate (fun _ => updateFits_writeUpdate8) h
  · split at h <;> obtain rfl := Except.ok.inj h
    · exact hg.setGate _
    · exact hg

/-- A generator bank may be changed to one that fits (R260, R261). -/
theorem BlockInv.updateGen {c : Config} {g : GtState} (hg : BlockInv c g) (i : GenId) (f : GenBank → GenBank)
    (hd : (f (g.gens.get i)).div < 2 ^ divWidth i) (hf : ctlFits c (f (g.gens.get i)).ctl = true) :
    BlockInv c (updateGen g i f) :=
  { hg with
    dividers := fun k => by
      simp only [Machine.updateGen, vector_get_set]
      split
      · rename_i h
        exact h ▸ hd
      · exact hg.dividers k
    genFits := fun k => by
      simp only [Machine.updateGen, vector_get_set]
      split
      · exact hf
      · exact hg.genFits k }

/-- A channel bank that the chip has may be changed to one that fits, and selected (R263). -/
theorem BlockInv.setChan {c : Config} {g : GtState} (hg : BlockInv c g) {ch : Nat} (hch : ch < c.numChannels)
    {b : ChanBank} (hb : chanFits c b = true) : BlockInv c { g with chans := g.chans.setIfInBounds ch b, selCh := ch } :=
  { hg with
    selected := hch
    channelFits := fun k => by
      have e : ∀ (xs : Vector ChanBank 64), xs.get k = xs[k.val] := fun _ => rfl
      rw [e, Vector.getElem_setIfInBounds]
      split
      · exact hb
      · exact hg.channelFits k }

theorem truncateDiv_lt (k : GenId) (v : Nat) : truncateDiv k v < 2 ^ divWidth k :=
  Nat.mod_lt _ (Nat.two_pow_pos _)

/-- Applying an update that fits keeps the block's invariant (R259 to R264). -/
theorem BlockInv.applyUpdate {c : Config} {g : GtState} (hc : ParamsFit c) (hg : BlockInv c g) {u : Update}
    (hu : updateFits c u = true) : BlockInv c (applyUpdate c u g) := by
  cases u with
  | reset =>
    have hpor := blockInv_powerOn hc
    exact
      { hg with
        selected := hpor.selected
        dividers := hpor.dividers
        genFits := hpor.genFits
        channelFits := hpor.channelFits }
  | div i v =>
    rw [Machine.applyUpdate]
    split
    · rename_i k _
      exact hg.updateGen k (fun b => { b with div := truncateDiv k v }) (truncateDiv_lt k v) (hg.genFits k)
    · exact hg
  | genctrl i b =>
    rw [Machine.applyUpdate]
    split
    · rename_i k _
      have hk := hg.updateGen k (fun old => { old with ctl := b }) (hg.dividers k) hu
      exact { hk with }
    · exact hg
  | selgen v =>
    rw [Machine.applyUpdate]
    split
    · exact { hg with }
    · exact hg
  | chan ch k e =>
    rw [Machine.applyUpdate]
    split
    · rename_i hch
      exact hg.setChan hch hu
    · exact hg
  | selch v =>
    rw [Machine.applyUpdate]
    split
    · rename_i hch
      exact { hg with selected := hch }
    · exact hg

/-- GTSYNC's step keeps the block's invariant (R258). -/
theorem BlockInv.gtSync {c : Config} {g : GtState} (hc : ParamsFit c) (hg : BlockInv c g) :
    BlockInv c (gtSync c g) := by
  unfold Machine.gtSync
  split
  · exact hg
  · rename_i u hu
    exact
      { hg.applyUpdate hc (hg.pendingFits u hu) with
        busyIffPending := rfl
        resetIffPending := rfl
        pendingFits := nofun }

/-! ### The whole invariant's parts -/

theorem GateInv.params {s : State} (hs : GateInv s) : ParamsFit s.cfg := paramsFit_of_configWf hs.instanceOk

theorem GateInv.block {s : State} (hs : GateInv s) : BlockInv s.cfg s.gt := { hs with }

theorem GateInv.setBlock {s : State} {g : GtState} (hs : GateInv s) (hg : BlockInv s.cfg g) :
    GateInv { s with gt := g } :=
  { hs with
    busyIffPending := hg.busyIffPending
    resetIffPending := hg.resetIffPending
    selected := hg.selected
    dividers := hg.dividers
    genFits := hg.genFits
    channelFits := hg.channelFits
    pendingFits := hg.pendingFits }

/-- One more transaction that fits keeps the invariant. -/
theorem GateInv.record {s : State} {x : Txn} (hs : GateInv s) (hx : txnFits s.cfg x = true) : GateInv (record x s) :=
  { hs with history := List.forall_mem_cons.2 ⟨hx, hs.history⟩ }

/-! ### MPC moves -/

/-- MPC may go where MODBUF holds what a WRM there needs. -/
theorem GateInv.setMpc {s : State} (hs : GateInv s) {k : Nat}
    (h : s.busy = true → ∀ r fs, s.prog[k]? = some (.wrm r fs) → mapFits s.cfg r s.modbuf = true) :
    GateInv { s with mpc := k } :=
  { hs with buffer := h }

/-- MPC goes on past any operation but an RD: no WRM stands after it (R144). -/
theorem GateInv.advance {s : State} {op : MicroOp} (hs : GateInv s) (hop : s.prog[s.mpc]? = some op)
    (hr : readsFor op = none) : GateInv (advance s) :=
  hs.setMpc fun hb r fs hk => by
    rcases rd_before_wrm (hs.modifies hb) hk with ⟨hz, -⟩ | ⟨j, hj, hrd⟩
    · cases hz
    · obtain rfl : s.mpc = j := by omega
      rw [hop] at hrd
      cases hrd
      cases hr

/-- An RD fills MODBUF with what the WRM after it needs, which is one of the same register (R79, R144). -/
theorem GateInv.execRead {s : State} {r : Reg} (hs : GateInv s) (hop : s.prog[s.mpc]? = some (.rd r)) (a : Answer) :
    GateInv (execRead r a s) :=
  { hs.record (x := .read r (readReg r a s)) (mapFits_readReg r a s) with
    buffer := fun hb r' fs hk => by
      rcases rd_before_wrm (hs.modifies hb) hk with ⟨hz, -⟩ | ⟨j, hj, hrd⟩
      · cases hz
      · obtain rfl : s.mpc = j := Nat.succ.inj hj
        obtain rfl : r = r' := by simpa [hop] using hrd
        exact mapFits_readReg r a s }

/-- A poll goes on past itself, or back to a poll: no WRM stands there (R143, R146). -/
theorem GateInv.execPoll {s : State} {r : Reg} {pred : List (RegField × Nat)} {back : Nat} (hs : GateInv s)
    (hop : s.prog[s.mpc]? = some (.poll r pred back)) (a : Answer) : GateInv (execPoll r pred back a s) := by
  have hrec := hs.record (x := .read r (readReg r a s)) (mapFits_readReg r a s)
  rw [execPoll_eq]
  cases pollHolds pred (readReg r a s) with
  | true => exact hrec.advance hop rfl
  | false =>
    refine hrec.setMpc fun hb r' fs hk => ?_
    rcases backsOk_poll (hs.backs hb) s.mpc hop with rfl | ⟨rfl, ⟨-, hf⟩ | ⟨j, _, _, _, hj, hpoll⟩⟩
    · cases hop.symm.trans hk
    · cases hf
    · have hback : s.mpc - 1 = j := by omega
      rw [← hback] at hpoll
      cases hpoll.symm.trans hk

/-! ### The other micro-operations -/

/-- A completed full write of values that fit, and MPC + 1. -/
theorem GateInv.portWrite {s t : State} {op : MicroOp} {r : Reg} {m : FieldMap} (hs : GateInv s)
    (hop : s.prog[s.mpc]? = some op) (hr : readsFor op = none) (hm : mapFits s.cfg r m = true)
    (h : portWrite r m s = .ok t) : GateInv (Machine.advance t) := by
  obtain ⟨g, rfl, hg⟩ := portWrite_ok h
  have hblock : BlockInv s.cfg g := by
    rcases hg with ⟨-, hg⟩ | ⟨-, rfl⟩
    · exact hs.block.gtWrite hm hg
    · exact hs.block
  exact ((hs.setBlock hblock).record (x := .write r m) hm).advance hop hr

/-- A completed 8-bit write of an 8-bit value, and MPC + 1. -/
theorem GateInv.portWrite8 {s t : State} {op : MicroOp} {r : Reg} {v : Nat} {a : Answer} (hs : GateInv s)
    (hop : s.prog[s.mpc]? = some op) (hr : readsFor op = none) (hv : v < 256)
    (h : portWrite8 r v a s = .ok t) : GateInv (Machine.advance t) := by
  obtain ⟨g, rfl, hg⟩ := portWrite8_ok h
  have hblock : BlockInv s.cfg g := by
    rcases hg with ⟨-, hg⟩ | ⟨-, rfl⟩
    · exact hs.block.gtWrite8 hg
    · exact hs.block
  exact ((hs.setBlock hblock).record (x := .write8 r v) (decide_eq_true hv)).advance hop hr

theorem GateInv.execCal {s : State} (hs : GateInv s) (hop : s.prog[s.mpc]? = some .cal) (a : Answer) :
    GateInv (execCal a s) := by
  have hcal := calFits_calDraw s.cfg a
  have hrec : GateInv { Machine.record (.cal (calDraw s.cfg a)) s with calbuf := calDraw s.cfg a } :=
    { hs.record (x := .cal (calDraw s.cfg a)) hcal with calibration := hcal }
  exact hrec.advance hop rfl

/-- A command's end keeps the invariant. -/
theorem GateInv.respond {s : State} (hs : GateInv s) (p : Resp) : GateInv (respond p s) :=
  { hs with writes := nofun, modifies := nofun, backs := nofun, buffer := nofun }

theorem GateInv.execMicro {s t : State} {op : MicroOp} {a : Answer} (hs : GateInv s) (hb : s.busy = true)
    (hop : s.prog[s.mpc]? = some op) (h : execMicro op a s = .next t) : GateInv t := by
  have hw : writeFits s.cfg op = true := List.all_eq_true.1 (hs.writes hb) op (List.mem_of_getElem? hop)
  rcases execMicro_next h with ⟨r, fs, u, rfl, hu, rfl⟩ | ⟨r, v, u, rfl, hu, rfl⟩ | ⟨r, rfl, rfl⟩ |
    ⟨r, fs, u, rfl, hu, rfl⟩ | ⟨r, pred, back, rfl, rfl⟩ | ⟨rfl, rfl⟩ | ⟨g, v, rfl, rfl⟩ | ⟨c, rfl, rfl⟩ | ⟨p, rfl, rfl⟩
  · exact hs.portWrite hop rfl (mapFits_fullWrite hs.calibration hw) hu
  · exact hs.portWrite8 hop rfl (of_decide_eq_true hw) hu
  · exact hs.execRead hop a
  · exact hs.portWrite hop rfl (mapFits_modifyWrite hs.calibration hw (hs.buffer hb r fs hop)) hu
  · exact hs.execPoll hop a
  · exact hs.execCal hop a
  · exact GateInv.advance (s := setFt g v s) { hs with } hop rfl
  · exact GateInv.advance (s := setUsage c s) { hs with } hop rfl
  · exact hs.respond p

/-! ### Issue -/

/-- The issue of any word keeps the invariant: its micro-program writes what fits, and begins with no WRM. -/
theorem GateInv.issue {s : State} (hs : GateInv s) {p : List MicroOp} (hp : IssuedProg s.cfg p) : GateInv (issue p s) :=
  { hs with
    writes := fun _ => hp.writesFit hs.params
    modifies := fun _ => hp.modifiesOk
    backs := fun _ => hp.backsOk
    buffer := fun _ r fs hk => by
      rcases rd_before_wrm hp.modifiesOk hk with ⟨-, hn⟩ | ⟨j, hj, -⟩
      · cases hn
      · cases hj }

theorem GateInv.issueWord {s t : State} (hs : GateInv s) (h : issueWord s = .next t) : GateInv t := by
  obtain ⟨p, hp, rfl⟩ := issueWord_issuedProg h
  exact hs.issue hp

/-! ### Turns -/

theorem GateInv.hostStep {s t : State} {a : HostAccess} (hs : GateInv s) (h : hostStep a s = .next t) : GateInv t := by
  rcases hostStep_next h with ⟨v, rfl⟩ | ⟨-, rfl⟩ | ⟨-, -, hi⟩ | rfl | ⟨d, rfl⟩
  · exact { hs with }
  · exact { hs with }
  · exact GateInv.issueWord (s := { s with cmdLo := a.data, hostReply := .stored }) { hs with } hi
  · exact { hs with }
  · exact { hs with }

theorem calFits_zero (c : Config) : calFits c { coarse := 0, fine := 0 } = true :=
  calFits_iff.2 ⟨Nat.two_pow_pos _, Nat.two_pow_pos _⟩

theorem GateInv.blockReset {s : State} (hs : GateInv s) : GateInv (blockReset s) :=
  { hs with
    calibration := calFits_zero s.cfg
    writes := nofun, modifies := nofun, backs := nofun, buffer := nofun }

theorem GateInv.runTurn {τ : Turn} {s t : State} (hs : GateInv s) (h : runTurn τ s = .next t) : GateInv t := by
  cases τ with
  | host a => exact hs.hostStep h
  | ctc a =>
    rcases ctcStep_next h with ⟨-, rfl⟩ | ⟨op, hb, hop, he⟩
    · exact hs
    · exact hs.execMicro hb hop he
  | gtsync =>
    cases h
    exact hs.setBlock (hs.block.gtSync hs.params)
  | blockReset =>
    cases h
    exact hs.blockReset
  | powerOn =>
    cases h
    exact hs.blockReset.setBlock (blockInv_powerOn hs.params)

end Sys2Proof.Machine
end

section
/-! PROOFS: the obligations of the family 20_memory.md. -/

namespace Sys2Proof.Machine

/-! ### The gating block's invariant and what the port carries (20_memory.md section 2) -/

/-- Settles O52, case by case over the agents' turns (`GateInv.runTurn`). -/
theorem stepKeepsTheGatingInvariant : Obligations.StepKeepsTheGatingInvariant := by
  intro s t hs h
  obtain ⟨ag, ix, he⟩ := takeTurn_eq s
  have htaken : GateInv (takeTurn s) := he ▸ { hs with }
  exact htaken.runTurn h

/-- Settles O37: the micro-program a command is issued with is one of `IssuedProg`. -/
theorem everyWriteFitsItsField : Obligations.EveryWriteFitsItsField := by
  intro i s t hc h
  obtain ⟨p, hp, rfl⟩ := exec_issuedProg h
  exact hp.writesFit (paramsFit_of_configWf hc)

/-- Settles O47: each field named is one that `gtKnown` gives a value, and the value is within the field's width. -/
theorem gtReadsShowTheirState : Obligations.GtReadsShowTheirState := by
  intro s a hg
  refine ⟨fun r => mapFits_readReg r a s,
    fieldOf_readReg_known (r := .busMask) a hg rfl (by decide) rfl (toNat_lt_fieldWidth _ rfl), fun hopen => ⟨
      fieldOf_readReg_known (r := .gtStatus) a hg (if_pos hopen) (by decide) rfl (toNat_lt_fieldWidth _ rfl),
      fieldOf_readReg_known (r := .gtCtrl) a hg (if_pos hopen) (by decide) rfl (toNat_lt_fieldWidth _ rfl),
      fun hquiet => ?_⟩⟩
  have genctrl : ∀ {f v}, f ∈ regFields .gtGenctrl → (genctrlFields s.gt).lookup f = some v →
      v < 2 ^ fieldWidth s.cfg .gtGenctrl f → fieldOf (readReg .gtGenctrl a s) f = v :=
    fieldOf_readReg_known a hg (gtKnown_gtGenctrl hopen hquiet)
  refine ⟨genctrl (by decide) rfl (lt_fieldWidth s.gt.selGen.isLt), fun hfits => ?_, fun hch => ?_⟩
  · obtain ⟨hsrc, hgenen, hidc, hoe, hdivsel, hrun⟩ := ctlFits_iff.1 hfits
    exact ⟨genctrl (by decide) rfl hsrc, genctrl (by decide) rfl hgenen, genctrl (by decide) rfl hidc,
      genctrl (by decide) rfl hoe, genctrl (by decide) rfl hdivsel, genctrl (by decide) rfl hrun⟩
  · have hknown := gtKnown_gtClkctrl hopen hquiet hch
    refine ⟨fieldOf_readReg_known a hg hknown (by decide) rfl (lt_fieldWidth hch), fun hfits => ?_⟩
    obtain ⟨hgen, hclken⟩ := chanFits_iff.1 hfits
    exact ⟨fieldOf_readReg_known a hg hknown (by decide) rfl hgen,
      fieldOf_readReg_known a hg hknown (by decide) rfl hclken⟩

/-! ### The host window (R73) -/

/-- Settles O13: the tests of `windowAccess`, one after another, are the cases of the statement. -/
theorem busErrorExactlyOnAnIllegalAccess : Obligations.BusErrorExactlyOnAnIllegalAccess := by
  intro a s hlo hhi off illegal
  have hoff : off < 0x80 := by omega
  have hstep : stepWith (.host a) s = windowAccess a off s := if_pos ⟨hlo, hhi⟩
  rw [hstep]
  by_cases hw : a.width = 32
  case neg => exact ⟨fun _ => ⟨_, if_pos hw⟩, fun h => absurd (.inl hw) h⟩
  by_cases hal : off % 4 = 0
  case neg => exact ⟨fun _ => ⟨_, (if_neg (not_not.2 hw)).trans (if_pos hal)⟩, fun h => absurd (.inr (.inl hal)) h⟩
  have hreserved := windowReg_eq_none_iff off hoff hal
  cases hr : windowReg off with
  | none =>
    refine ⟨fun _ => ⟨.reservedOffset, by simp [windowAccess, hw, hal, hr]⟩, fun h => absurd ?_ h⟩
    exact .inr (.inr ((hreserved.1 hr).imp_right .inl))
  | some r =>
    have hmapped : ¬ ((0x14 ≤ off ∧ off < 0x20) ∨ 0x4C ≤ off) := by simp [← hreserved, hr]
    have hill : illegal ↔ a.store = true ∧ readOnly r = true := by
      rw [readOnly_iff_of_windowReg hr]
      constructor
      · rintro (h | h | h | h | h)
        exacts [absurd hw h, absurd hal h, absurd (.inl h) hmapped, absurd (.inr h) hmapped, h]
      · exact fun h => .inr (.inr (.inr (.inr h)))
    rw [hill]
    exact windowAccess_mapped hw hal hr s

/-! ### Transactions of one micro-operation (R79, R81, R142) -/

/-- Settles O41: the read leaves the gating block as it is, so the write meets no update in flight and completes. -/
theorem modifyKeepsUnlistedFields : Obligations.ModifyKeepsUnlistedFields := by
  intro s a b r f v hb hq hf hrd hwrm
  obtain ⟨g, hw⟩ := portWrite_quiet r (modifyWrite r [(f, v)] (readReg r a s)) (s := execRead r a s) hq
  have hwrite := (ctcStep_busy (a := b) (s := execRead r a s) hb hwrm).trans (congrArg afterWrite hw)
  refine ⟨readReg r a s, _, execRead r a s, _, ctcStep_busy hb hrd, rfl, hwrite, rfl, rfl, ?_, fun f' hf' hne => ?_⟩
  · simp [fieldOf_modifyWrite hf]
  · have hlk : (f' == f) = false := by simpa using hne
    simp [fieldOf_modifyWrite hf', List.lookup_cons, hlk]

/-- Settles O42: with no update in flight the write completes, and it carries the register's fields in order. -/
theorem fullWriteZeroesUnlistedFields : Obligations.FullWriteZeroesUnlistedFields := by
  intro s a r fs hb hq hop
  obtain ⟨g, hw⟩ := portWrite_quiet r (fullWrite r (evalFields s.calbuf fs)) hq
  refine ⟨_, _, (ctcStep_busy hb hop).trans (congrArg afterWrite hw), rfl, rfl, map_fst_pair _ _, fun f hf => ?_,
    rfl, rfl, rfl, rfl⟩
  rw [fieldOf_fullWrite hf, fieldOf, lookup_evalFields]
  cases fs.lookup f <;> rfl

/-- Settles O43: the calibration read is cut to its two widths. -/
theorem calStoresTheCalibration : Obligations.CalStoresTheCalibration := by
  intro s a hb hop
  exact ⟨calDraw s.cfg a, ctcStep_busy hb hop, calFits_iff.1 (calFits_calDraw s.cfg a)⟩

end Sys2Proof.Machine
end

section
/-! PROOFS of the family 30_encoding.md: the command word's fields, decode against encode, and the response word.

A word is its ten fields in a row (`fields_append`). A command's mask test fixes every field the command does not use
(`extractLsb'_of_mask`), so the fields it does use rebuild the word (`layOut_eq_of_fields`). -/

namespace Sys2Proof

/-! ### The numbers of the operands (R102, R103) -/

@[simp] theorem SourceKind.ofNumber_number (k : SourceKind) : SourceKind.ofNumber k.number = k := by
  cases k <;> rfl

@[simp] theorem SourceKind.number_ofNumber : ∀ n, (SourceKind.ofNumber n).number = n := by decide

@[simp] theorem Variant.ofNumber_number (v : Variant) : Variant.ofNumber v.number = v := by
  cases v <;> rfl

@[simp] theorem Variant.number_ofNumber : ∀ n, (Variant.ofNumber n).number = n := by decide

@[simp] theorem toFin_genBits (g : GenId) : (genBits g).toFin = g := rfl

/-! ### The fields of a word laid out (R100, R101)

Each proof skips the fields above the one read, then reads that one off the top. -/

section LayOut

variable (d : BitVec 32) (ch : BitVec 6) (var : BitVec 2) (src : BitVec 3) (flag : Bool) (g : BitVec 3) (op : BitVec 4)

@[simp] theorem fieldDiv_layOut : fieldDiv (layOut d ch var src flag g op) = d.toNat :=
  congrArg BitVec.toNat BitVec.extractLsb'_append_eq_left

@[simp] theorem fieldCh_layOut : fieldCh (layOut d ch var src flag g op) = ch.toNat := by
  rw [fieldCh, layOut]
  iterate 2 rw [BitVec.extractLsb'_append_eq_of_add_le (by decide)]
  exact congrArg BitVec.toNat BitVec.extractLsb'_append_eq_left

@[simp] theorem fieldVar_layOut : fieldVar (layOut d ch var src flag g op) = .ofNumber var.toFin := by
  rw [fieldVar, layOut]
  iterate 4 rw [BitVec.extractLsb'_append_eq_of_add_le (by decide)]
  exact congrArg (fun x : BitVec 2 => Variant.ofNumber x.toFin) BitVec.extractLsb'_append_eq_left

@[simp] theorem fieldSrc_layOut : fieldSrc (layOut d ch var src flag g op) = .ofNumber src.toFin := by
  rw [fieldSrc, layOut]
  iterate 6 rw [BitVec.extractLsb'_append_eq_of_add_le (by decide)]
  exact congrArg (fun x : BitVec 3 => SourceKind.ofNumber x.toFin) BitVec.extractLsb'_append_eq_left

@[simp] theorem fieldFlag_layOut : fieldFlag (layOut d ch var src flag g op) = flag := by
  simp only [fieldFlag, layOut, BitVec.getLsbD_append]
  simp

@[simp] theorem fieldGen_layOut : fieldGen (layOut d ch var src flag g op) = g.toFin := by
  rw [fieldGen, layOut]
  iterate 8 rw [BitVec.extractLsb'_append_eq_of_add_le (by decide)]
  exact congrArg BitVec.toFin BitVec.extractLsb'_append_eq_left

end LayOut

/-! ### A word from its fields (R100) -/

/-- A word is its ten fields in a row. -/
theorem fields_append (w : CmdWord) :
    w.extractLsb' 32 32 ++ (w.extractLsb' 22 10 ++ (w.extractLsb' 16 6 ++ (w.extractLsb' 14 2 ++ (w.extractLsb' 12 2 ++
      (w.extractLsb' 11 1 ++ (w.extractLsb' 8 3 ++ (w.extractLsb' 7 1 ++ (w.extractLsb' 4 3 ++
        w.extractLsb' 0 4)))))))) = w := by
  simp only [BitVec.extractLsb'_append_extractLsb'_eq_extractLsb', BitVec.extractLsb'_eq_self]

/-- A word whose reserved bits are 0 is its other fields laid out. -/
theorem layOut_eq_of_fields {w : CmdWord} {d : BitVec 32} {ch : BitVec 6} {var : BitVec 2} {src : BitVec 3} {flag : Bool}
    {g : BitVec 3} {op : BitVec 4} (hdiv : w.extractLsb' 32 32 = d) (hres22 : w.extractLsb' 22 10 = 0#10)
    (hch : w.extractLsb' 16 6 = ch) (hres14 : w.extractLsb' 14 2 = 0#2) (hvar : w.extractLsb' 12 2 = var)
    (hres11 : w.extractLsb' 11 1 = 0#1) (hsrc : w.extractLsb' 8 3 = src) (hflag : w.extractLsb' 7 1 = BitVec.ofBool flag)
    (hgen : w.extractLsb' 4 3 = g) (hop : w.extractLsb' 0 4 = op) : layOut d ch var src flag g op = w := by
  rw [layOut, ← hdiv, ← hres22, ← hch, ← hres14, ← hvar, ← hres11, ← hsrc, ← hflag, ← hgen, ← hop, fields_append]

/-- A mask test fixes every field that the mask covers. -/
theorem extractLsb'_of_mask {w mask pattern : CmdWord} (h : w &&& mask = pattern) {start len : Nat}
    (hcovers : mask.extractLsb' start len = BitVec.allOnes len) :
    w.extractLsb' start len = pattern.extractLsb' start len := by
  rw [← h, BitVec.extractLsb'_and, hcovers, BitVec.and_allOnes]

/-! ### The operands read from a word give its fields back -/

theorem extractLsb'_div (w : CmdWord) : w.extractLsb' 32 32 = BitVec.ofNat 32 (fieldDiv w) :=
  ((BitVec.ofNat_toNat _ _).trans (BitVec.setWidth_eq _)).symm

theorem extractLsb'_ch (w : CmdWord) : w.extractLsb' 16 6 = BitVec.ofNat 6 (fieldCh w) :=
  ((BitVec.ofNat_toNat _ _).trans (BitVec.setWidth_eq _)).symm

theorem extractLsb'_var (w : CmdWord) : w.extractLsb' 12 2 = BitVec.ofFin (fieldVar w).number :=
  congrArg BitVec.ofFin (Variant.number_ofNumber _).symm

theorem extractLsb'_src (w : CmdWord) : w.extractLsb' 8 3 = BitVec.ofFin (fieldSrc w).number :=
  congrArg BitVec.ofFin (SourceKind.number_ofNumber _).symm

theorem extractLsb'_gen (w : CmdWord) : w.extractLsb' 4 3 = genBits (fieldGen w) := rfl

theorem extractLsb'_flag (w : CmdWord) : w.extractLsb' 7 1 = BitVec.ofBool (fieldFlag w) := by
  apply BitVec.eq_of_getLsbD_eq
  simp [fieldFlag]

/-! ### Encoding the command of a word that passes the mask test (R105)

In each proof the mask fixes the fields left open by `?_`, and the command's operands give the others. -/

theorem encode_bringup48_of_mask {w : CmdWord} (h : w &&& 0xFFFFFFFFFFFFCFFF = 1) :
    encode (.bringup48 (fieldVar w)) = w := by
  refine layOut_eq_of_fields ?_ ?_ ?_ ?_ (extractLsb'_var w) ?_ ?_ ?_ ?_ ?_ <;> exact extractLsb'_of_mask h rfl

theorem encode_lookup_of_mask {w : CmdWord} (h : w &&& 0xFFFFFFFFFFFFFF8F = 3) : encode (.lookup (fieldGen w)) = w := by
  refine layOut_eq_of_fields ?_ ?_ ?_ ?_ ?_ ?_ ?_ ?_ (extractLsb'_gen w) ?_ <;> exact extractLsb'_of_mask h rfl

theorem encode_claim_of_mask {w : CmdWord} (h : w &&& 0x00000000FFFFF80F = 4) :
    encode (.claim (fieldGen w) (fieldFlag w) (fieldSrc w) (fieldDiv w)) = w := by
  refine layOut_eq_of_fields (extractLsb'_div w) ?_ ?_ ?_ ?_ ?_ (extractLsb'_src w) (extractLsb'_flag w)
    (extractLsb'_gen w) ?_ <;> exact extractLsb'_of_mask h rfl

theorem encode_enable_of_mask {w : CmdWord} (h : w &&& 0xFFFFFFFFFFC0FF8F = 5) :
    encode (.enable (fieldCh w) (fieldGen w)) = w := by
  refine layOut_eq_of_fields ?_ ?_ (extractLsb'_ch w) ?_ ?_ ?_ ?_ ?_ (extractLsb'_gen w) ?_ <;>
    exact extractLsb'_of_mask h rfl

theorem encode_standby_of_mask {w : CmdWord} (h : w &&& 0xFFFFFFFFFFFFFF0F = 6) :
    encode (.standby (fieldGen w) (fieldFlag w)) = w := by
  refine layOut_eq_of_fields ?_ ?_ ?_ ?_ ?_ ?_ ?_ (extractLsb'_flag w) (extractLsb'_gen w) ?_ <;>
    exact extractLsb'_of_mask h rfl

/-- BRINGUP8 uses no field: its mask covers the whole word. -/
theorem encode_bringup8_of_mask {w : CmdWord} (h : w &&& 0xFFFFFFFFFFFFFFFF = 2) : encode .bringup8 = w :=
  h.symm.trans BitVec.and_allOnes

/-! ### The cases of decode (R104, R105, R110 to R112) -/

/-- The reserved opcodes are the ones without a row. -/
theorem opRow_eq_none_iff : ∀ op, opRow op = none ↔ op.toNat = 0 ∨ 7 ≤ op.toNat := by decide

theorem opRow_of_toNat {op : BitVec 4} {n : Nat} (h : op.toNat = n) :
    opRow op = if n = 0 then none else opTable[n - 1]? := by
  rw [opRow, h]

theorem assemble_eq_none_iff {w : CmdWord} :
    assemble w = none ↔ (fieldOp w).toNat = 0 ∨ 7 ≤ (fieldOp w).toNat := by
  unfold assemble
  split
  case h_7 =>
    refine iff_of_true rfl ?_
    simp only [imp_false] at *
    omega
  all_goals exact iff_of_false nofun (by omega)

theorem decode_of_reservedOpcode {w : CmdWord} (h : opRow (fieldOp w) = none) : decode w = .error .reservedOpcode := by
  simp [decode, h]

/-- With a row, the mask test alone decides (R112). -/
theorem decode_of_opRow {w : CmdWord} {row : OpRow} (hrow : opRow (fieldOp w) = some row) :
    ∃ i, assemble w = some i ∧
      decode w = if w &&& row.mask = row.pattern then .ok i else .error .reservedField := by
  have hsome : assemble w ≠ none := by
    rw [Ne, assemble_eq_none_iff, ← opRow_eq_none_iff, hrow]
    exact nofun
  obtain ⟨i, hi⟩ := Option.ne_none_iff_exists'.1 hsome
  exact ⟨i, hi, by simp [decode, hrow, hi]⟩

/-- A word decodes exactly when its opcode has a row whose mask test it passes, to the command its fields spell. -/
theorem decode_eq_ok_iff {w : CmdWord} {i : Instr} :
    decode w = .ok i ↔ ∃ row, opRow (fieldOp w) = some row ∧ w &&& row.mask = row.pattern ∧ assemble w = some i := by
  cases hrow : opRow (fieldOp w) with
  | none => simp [decode_of_reservedOpcode hrow]
  | some row =>
    obtain ⟨j, hj, hd⟩ := decode_of_opRow hrow
    by_cases hm : w &&& row.mask = row.pattern <;> simp [hd, hj, hm]

/-! ### Encoding and decoding undo each other -/

/-- The fields of a well-formed command's word spell that command (R101, R104). -/
theorem assemble_encode {i : Instr} (h : i.wf = true) : assemble (encode i) = some i := by
  unfold assemble
  cases i with
  | bringup48 var => simp [encode, fieldOp_layOut]
  | bringup8 => rfl
  | lookup g => simp [encode, fieldOp_layOut]
  | claim g idc src d => simpa [encode, fieldOp_layOut] using (decide_eq_true_iff.1 h : d < 2 ^ 32)
  | enable ch g => simpa [encode, fieldOp_layOut] using (decide_eq_true_iff.1 h : ch < 64)
  | standby g en => simp [encode, fieldOp_layOut]

theorem rowMatch (i : Instr) : Laws.RowMatch.Statement i := by
  cases i with
  | bringup48 var => exact Laws.RowMatch.bringup48 var
  | bringup8 => exact Laws.RowMatch.bringup8
  | lookup g => exact Laws.RowMatch.lookup g
  | claim g idc src d => exact Laws.RowMatch.claim g idc src d
  | enable ch g => exact Laws.RowMatch.enable ch g
  | standby g en => exact Laws.RowMatch.standby g en

/-- A number read from a field fits it, so a word's fields spell a well-formed command. -/
theorem wf_of_assemble {w : CmdWord} {i : Instr} (h : assemble w = some i) : i.wf = true := by
  unfold assemble at h
  split at h <;> cases h
  case h_4 => exact decide_eq_true (BitVec.isLt _)
  case h_5 => exact decide_eq_true (BitVec.isLt _)
  all_goals rfl

/-- The command that a word's fields spell has that word, if the word passes its row's mask test. -/
theorem encode_of_assemble {w : CmdWord} {row : OpRow} {i : Instr} (hrow : opRow (fieldOp w) = some row)
    (hm : w &&& row.mask = row.pattern) (h : assemble w = some i) : encode i = w := by
  unfold assemble at h
  split at h <;> cases h <;> rename_i hop <;> cases (opRow_of_toNat hop).symm.trans hrow
  · exact encode_bringup48_of_mask hm
  · exact encode_bringup8_of_mask hm
  · exact encode_lookup_of_mask hm
  · exact encode_claim_of_mask hm
  · exact encode_enable_of_mask hm
  · exact encode_standby_of_mask hm

end Sys2Proof

namespace Sys2Proof.Machine

/-! ### A word that is no command (R111, R112) -/

/-- A rejected word is issued with a lone ILLEGAL response that names why. -/
theorem issueWord_of_reject {s : State} {e : Reject} (h : decode (s.cmdHi ++ s.cmdLo) = .error e) :
    issueWord s = .next (issue (illegalProg (rejectCause e)) s) := by
  simp [issueWord, h]

theorem storeAnswersAtOnce_of_reject {s : State} {v : Word} {e : Reject} (hb : s.busy = false) (hp : s.phase ≠ .halted)
    (h : decode (s.cmdHi ++ v) = .error e) :
    storeAnswersAtOnce s v (respLo { status := .illegal, cause := rejectCause e }) :=
  ⟨_, _, (stepWith_store_cmdLo_free v hb hp).trans (issueWord_of_reject h), fun _ => rfl⟩

/-! ### The response word (R106)

STATUS is `respLo_status`. As for the command word, each proof skips the fields above the one read. -/

theorem respLo_cause (p : Resp) : (respLo p).extractLsb' 24 8 = causeCode p.cause :=
  BitVec.extractLsb'_append_eq_left

theorem respLo_reserved22 (p : Resp) : (respLo p).extractLsb' 22 2 = 0 := by
  rw [respLo, BitVec.extractLsb'_append_eq_of_add_le (by decide)]
  exact BitVec.extractLsb'_append_eq_left

theorem respLo_ch (p : Resp) : (respLo p).extractLsb' 16 6 = p.ch := by
  rw [respLo]
  iterate 2 rw [BitVec.extractLsb'_append_eq_of_add_le (by decide)]
  exact BitVec.extractLsb'_append_eq_left

theorem respLo_reserved11 (p : Resp) : (respLo p).extractLsb' 11 5 = 0 := by
  rw [respLo]
  iterate 3 rw [BitVec.extractLsb'_append_eq_of_add_le (by decide)]
  exact BitVec.extractLsb'_append_eq_left

theorem respLo_gen (p : Resp) : (respLo p).extractLsb' 8 3 = genBits p.gen := by
  rw [respLo]
  iterate 4 rw [BitVec.extractLsb'_append_eq_of_add_le (by decide)]
  exact BitVec.extractLsb'_append_eq_left

theorem respLo_kind (p : Resp) : (respLo p).extractLsb' 4 4 = kindCode p.kind := by
  rw [respLo]
  iterate 5 rw [BitVec.extractLsb'_append_eq_of_add_le (by decide)]
  exact BitVec.extractLsb'_append_eq_left

end Sys2Proof.Machine
end

section
/-! PROOFS: the obligations of the family 30_encoding.md. -/

namespace Sys2Proof.Machine

/-! ### Decode and encode (30_encoding.md sections 1 and 2) -/

/-- Settles O1: the word carries the command's opcode, passes its row's mask test (`rowMatch`), and spells the command. -/
theorem decodeOfEncodeGivesBackTheCommand : Obligations.DecodeOfEncodeGivesBackTheCommand := by
  intro i hwf
  obtain ⟨row, hrow, hop, hm⟩ := rowMatch i
  exact decode_eq_ok_iff.2 ⟨row, hop ▸ hrow, hm, assemble_encode hwf⟩

/-- Settles O2: the mask test fixes the fields the command does not use, and its operands are the others. -/
theorem encodeOfDecodeGivesBackTheWord : Obligations.EncodeOfDecodeGivesBackTheWord := by
  intro w i h
  obtain ⟨row, hrow, hm, ha⟩ := decode_eq_ok_iff.1 h
  exact ⟨encode_of_assemble hrow hm ha, wf_of_assemble ha⟩

/-- Settles O3: eleven closed words, each decoded by evaluation. -/
theorem encodingExamplesDecode : Obligations.EncodingExamplesDecode := by
  unfold Obligations.EncodingExamplesDecode
  decide

/-! ### Responses (30_encoding.md sections 3 and 4) -/

/-- Settles O7: the opcode has no row, or the mask test of its row fails, and either is a rejection. -/
theorem undecodableWordIsAnsweredIllegal : Obligations.UndecodableWordIsAnsweredIllegal := by
  intro s v hb hp
  constructor
  · intro hop
    exact storeAnswersAtOnce_of_reject hb hp (decode_of_reservedOpcode ((opRow_eq_none_iff _).2 hop))
  · intro row hrow hm
    obtain ⟨i, -, hd⟩ := decode_of_opRow hrow
    exact storeAnswersAtOnce_of_reject hb hp (hd.trans (if_neg hm))

/-- Settles O44: RESP writes `respLo` and `respHi`, and PHASE only where it is given one. -/
theorem responseWordLayout : Obligations.ResponseWordLayout := by
  intro s a p hb hop
  exact ⟨respond p s, ctcStep_busy hb hop, rfl, rfl, rfl, rfl, respLo_status p, respLo_kind p,
    congrArg BitVec.toNat (respLo_gen p), respLo_reserved11 p, respLo_ch p, respLo_reserved22 p, respLo_cause p⟩

end Sys2Proof.Machine
end

section
/-! PROOFS of the family 40_sequencer.md: what a micro-program keeps to, and the sync discipline's invariant (R141, R148).

The invariant's proof rests on three facts. `syncOk` asks less when nothing is in flight (`syncOk_of_true`), so GTSYNC may
step at any time. A write meets the gating block only where `syncOk` says that nothing is in flight
(`SyncBlock.portWrite`). And a poll for SYNCBUSY = 0 holds only then (`SyncBlock.pending_of_poll`). -/

namespace Sys2Proof.Machine

/-! ### The sync discipline of a micro-program (R148) -/

/-- What the discipline asks at a full or a modifying write: nothing in flight before a GT write, and the bus-clock gate
opened by a BUS.MASK write. -/
theorem syncOk_write_iff {flag : Bool} {r : Reg} {fs : List (RegField × Val)} {ops : List MicroOp} :
    syncOk flag (.wr r fs :: ops) = true ↔
      (isGt r = true ∧ flag = false ∧ syncOk true ops = true) ∨
      (isGt r = false ∧ (r = .busMask → fs = [(.gt, .lit 1)]) ∧ syncOk flag ops = true) := by
  rw [syncOk]
  cases hr : isGt r with
  | true => simp
  | false => by_cases hm : r = .busMask <;> simp [hm]

/-- With nothing in flight the discipline asks less. -/
theorem syncOk_of_quiet {flag : Bool} {p : List MicroOp} (h : syncOk flag p = true) : syncOk false p = true := by
  induction p with
  | nil => cases h
  | cons op ops ih =>
    have write : ∀ r fs, syncOk flag (.wr r fs :: ops) = true → syncOk false (.wr r fs :: ops) = true := by
      intro r fs h
      rcases syncOk_write_iff.1 h with ⟨hr, -, hops⟩ | ⟨hr, hm, hops⟩
      · exact syncOk_write_iff.2 (.inl ⟨hr, rfl, hops⟩)
      · exact syncOk_write_iff.2 (.inr ⟨hr, hm, ih hops⟩)
    cases op with
    | wr r fs => exact write r fs h
    | wrm r fs => exact write r fs h
    | wr8 r v =>
      simp only [syncOk, Bool.and_eq_true] at h ⊢
      exact ⟨⟨h.1.1, rfl⟩, h.2⟩
    | rd r =>
      simp only [syncOk, Bool.and_eq_true] at h
      simp [syncOk, ih h.2]
    | poll r pred back =>
      rw [syncOk] at h
      rw [syncOk, ite_self]
      split at h
      · exact h
      · exact ih h
    | cal | setft _ _ | setuse _ => exact ih h
    | resp p => rfl

/-- What keeps to the discipline while an update is in flight keeps to it in any case. -/
theorem syncOk_of_true {p : List MicroOp} (flag : Bool) (h : syncOk true p = true) : syncOk flag p = true := by
  cases flag with
  | true => exact h
  | false => exact syncOk_of_quiet h

/-- A poll may be stepped over backwards: before it the discipline asks no more than after it (R146). -/
theorem syncOk_poll_of_tail {flag : Bool} {r : Reg} {pred : List (RegField × Nat)} {back : Nat} {ops : List MicroOp}
    (h : syncOk flag ops = true) : syncOk flag (.poll r pred back :: ops) = true := by
  rw [syncOk]
  split
  · exact syncOk_of_quiet h
  · exact h

theorem syncOk_prog48 (c : Config) (v : Variant) : syncOk false (prog48 c v) = true := by
  unfold prog48 multStep
  rcases multMulWrite_cases c v with h | ⟨fs, h⟩ <;> rw [h] <;> cases v <;> rfl

/-- Whatever word is issued, its micro-program keeps the sync discipline (R148, R172). -/
theorem IssuedProg.syncOk {c : Config} {p : List MicroOp} (h : IssuedProg c p) : syncOk false p = true := by
  cases h with
  | bringup48 v => exact syncOk_prog48 c v
  | answer _ | bringup8 | claim _ _ _ _ _ _ | enable _ _ _ _ | standby _ _ => rfl

/-- Whatever word is issued, its micro-program ends with its one RESP (R141). -/
theorem IssuedProg.ends {c : Config} {p : List MicroOp} (h : IssuedProg c p) :
    ∃ ops r, p = ops ++ [.resp r] ∧ ops.all (fun op => !isResp op) = true := by
  cases h with
  | answer r => exact ⟨[], r, rfl, rfl⟩
  | bringup48 v =>
    refine ⟨_, _, rfl, ?_⟩
    unfold multStep
    rcases multMulWrite_cases c v with h | ⟨fs, h⟩ <;> rw [h] <;> cases v <;> rfl
  | bringup8 => exact ⟨_, _, rfl, rfl⟩
  | claim g d k idc f _ => exact ⟨seqGen c g d k idc ++ [.setft g f], handleResp g f, by simp, rfl⟩
  | enable ch g f _ => exact ⟨_, _, rfl, rfl⟩
  | standby g en => exact ⟨_, _, rfl, rfl⟩

end Sys2Proof.Machine
end

section
/-! PROOFS: the sync discipline's invariant over a turn (R148, R267, 43_gating_block.md section 3). -/

namespace Sys2Proof.Machine

/-! ### The gating block -/

/-- What the sync discipline's invariant says of the gating block alone (R253, R254, R267). -/
structure SyncBlock (c : Config) (g : GtState) : Prop where
  busyIffPending : g.syncbusy = g.pending.isSome
  gatedQuiet : g.gten = false → g.pending = none
  unusedQuiet : c.gating = false → g.pending = none

/-- With no update in flight an update is recorded, or the block stays as it is (R253 to R255). -/
theorem SyncBlock.recordUpdate {c : Config} {g : GtState} (hg : SyncBlock c g) (hc : c.gating = true)
    (hp : g.pending = none) (u : Option Update) : ∃ g', recordUpdate u g = .ok g' ∧ SyncBlock c g' := by
  simp only [Machine.recordUpdate, hp, Option.isSome_none, Bool.false_eq_true, if_false]
  split
  · rename_i hopen
    cases u with
    | none => exact ⟨_, rfl, hg⟩
    | some u => exact ⟨_, rfl, rfl, by simp [hopen], by simp [hc]⟩
  · exact ⟨_, rfl, hg⟩

/-- A write that meets no update in flight, and leaves the gate open if it is one of BUS.MASK, completes; only a write to a
GT register may leave an update in flight. -/
theorem SyncBlock.gtWrite {c : Config} {g : GtState} {r : Reg} {m : FieldMap} (hg : SyncBlock c g) (hc : c.gating = true)
    (hp : isGt r = true → g.pending = none) (hm : r = .busMask → fieldOf m .gt ≠ 0) :
    ∃ g', gtWrite r m g = .ok g' ∧ SyncBlock c g' ∧ (isGt r = false → g'.pending = g.pending) := by
  cases hr : isGt r with
  | true =>
    obtain ⟨g', hw, hg'⟩ := hg.recordUpdate hc (hp hr) (writeUpdate r m)
    exact ⟨g', (if_pos hr).trans hw, hg', nofun⟩
  | false =>
    rw [Machine.gtWrite, hr]
    by_cases hb : r = .busMask
    · exact ⟨{ g with gten := true }, by simp [hb, hm hb],
        { hg with gatedQuiet := nofun }, fun _ => rfl⟩
    · exact ⟨g, by simp [hb], hg, fun _ => rfl⟩

/-- The same of the port's write, with the module used or not (R75, R80). -/
theorem SyncBlock.portWrite {s : State} {r : Reg} {m : FieldMap} (hg : SyncBlock s.cfg s.gt)
    (hp : isGt r = true → s.gt.pending = none) (hm : r = .busMask → fieldOf m .gt ≠ 0) :
    ∃ g, portWrite r m s = .ok (record (.write r m) { s with gt := g }) ∧ SyncBlock s.cfg g ∧
      (isGt r = false → g.pending = s.gt.pending) := by
  unfold Machine.portWrite
  cases hc : s.cfg.gating with
  | true =>
    obtain ⟨g, hw, hg', hpend⟩ := hg.gtWrite hc hp hm
    exact ⟨g, by simp [hw], hg', hpend⟩
  | false => exact ⟨s.gt, rfl, hg, fun _ => rfl⟩

/-- An 8-bit write to a GT register that meets no update in flight completes (R255). -/
theorem SyncBlock.portWrite8 {s : State} {r : Reg} (v : Nat) (a : Answer) (hg : SyncBlock s.cfg s.gt)
    (hr : isGt r = true) (hp : s.gt.pending = none) :
    ∃ g, portWrite8 r v a s = .ok (record (.write8 r v) { s with gt := g }) ∧ SyncBlock s.cfg g := by
  unfold Machine.portWrite8
  cases hc : s.cfg.gating with
  | true =>
    obtain ⟨g, hw, hg'⟩ := hg.recordUpdate hc hp (writeUpdate8 r v (a.byteUpdate.map (cutUpdate s.cfg)))
    exact ⟨g, by simp [gtWrite8, hr, hw], hg'⟩
  | false => exact ⟨s.gt, rfl, hg⟩

/-- GTSYNC leaves no update in flight, and SYNCBUSY shows it (R258). -/
theorem syncBlock_gtSync {c : Config} {g : GtState} (hg : SyncBlock c g) :
    SyncBlock c (gtSync c g) ∧ (gtSync c g).pending = none := by
  unfold gtSync
  split
  · rename_i hp
    exact ⟨hg, hp⟩
  · exact ⟨⟨rfl, fun _ => rfl, fun _ => rfl⟩, rfl⟩

/-- A poll that reads SYNCBUSY = 0 shows that no update is in flight (R147, R256). -/
theorem SyncBlock.pending_of_poll {s : State} (hg : SyncBlock s.cfg s.gt) {a : Answer}
    (h : pollHolds [(.syncbusy, 0)] (readReg .gtStatus a s) = true) : s.gt.pending = none := by
  by_contra hp
  have hused : s.cfg.gating = true := by simpa using mt hg.unusedQuiet hp
  have hopen : s.gt.gten = true := by simpa using mt hg.gatedQuiet hp
  have hbusy : s.gt.syncbusy = true := by
    rw [hg.busyIffPending]
    exact Option.isSome_iff_ne_none.2 hp
  have hread : fieldOf (readReg .gtStatus a s) .syncbusy = s.gt.syncbusy.toNat :=
    fieldOf_readReg_known a hused (if_pos hopen) (by decide) rfl (toNat_lt_fieldWidth _ rfl)
  simp [pollHolds, hread, hbusy] at h

/-! ### The invariant's parts -/

theorem SyncInv.block {s : State} (hs : SyncInv s) : SyncBlock s.cfg s.gt := { hs with }

/-- Without a command, the invariant says that nothing is in flight. -/
theorem syncInv_of_idle {s : State} (hb : s.busy = false) (hg : SyncBlock s.cfg s.gt) (hp : s.gt.pending = none) :
    SyncInv s :=
  { hg with
    idleQuiet := fun _ => hp
    backs := by simp [hb]
    tail := by simp [hb] }

/-- While a command runs, the invariant speaks of the block and of the rest of the micro-program. -/
theorem syncInv_of_running {s : State} (hb : s.busy = true) (hg : SyncBlock s.cfg s.gt)
    (hbacks : backsOk false s.prog = true) (htail : syncOk s.gt.pending.isSome (s.prog.drop s.mpc) = true) : SyncInv s :=
  { hg with
    idleQuiet := by simp [hb]
    backs := fun _ => hbacks
    tail := fun _ => htail }

/-- What the invariant says of a running micro-program that stands at `op`. -/
theorem SyncInv.tail_cons {s : State} (hs : SyncInv s) (hb : s.busy = true) {op : MicroOp}
    (hop : s.prog[s.mpc]? = some op) : syncOk s.gt.pending.isSome (op :: s.prog.drop (s.mpc + 1)) = true :=
  drop_of_getElem? hop ▸ hs.tail hb

/-- A running micro-program has a micro-operation at MPC (R141). -/
theorem SyncInv.op_of_busy {s : State} (hs : SyncInv s) (hb : s.busy = true) : ∃ op, s.prog[s.mpc]? = some op := by
  have h := hs.tail hb
  cases hop : s.prog[s.mpc]? with
  | some op => exact ⟨op, rfl⟩
  | none =>
    rw [List.drop_eq_nil_of_le (List.getElem?_eq_none_iff.1 hop)] at h
    cases h

/-- MPC goes on where the rest of the micro-program keeps the discipline. -/
theorem SyncInv.advance {s : State} (hs : SyncInv s) (hb : s.busy = true)
    (htail : syncOk s.gt.pending.isSome (s.prog.drop (s.mpc + 1)) = true) : SyncInv (advance s) :=
  syncInv_of_running hb hs.block (hs.backs hb) htail

/-! ### A CTC step -/

/-- The outcome is a state with the invariant. -/
def nextKeepsSync (o : Host.Outcome State Fault Refusal) : Prop := ∃ t, o = .next t ∧ SyncInv t

/-- A full or modifying write that the discipline admits completes, and keeps the invariant. -/
theorem SyncInv.write {s : State} (hs : SyncInv s) (hb : s.busy = true) {r : Reg} {fs : List (RegField × Val)}
    {m : FieldMap} (hm : fs = [(.gt, .lit 1)] → r = .busMask → fieldOf m .gt = 1)
    (hok : syncOk s.gt.pending.isSome (.wr r fs :: s.prog.drop (s.mpc + 1)) = true) :
    nextKeepsSync (afterWrite (portWrite r m s)) := by
  rcases syncOk_write_iff.1 hok with ⟨hr, hflag, hops⟩ | ⟨hr, hmask, hops⟩
  · have hbus : r ≠ .busMask := by
      rintro rfl
      cases hr
    obtain ⟨g, hw, hg, -⟩ := hs.block.portWrite (m := m) (fun _ => by simpa using hflag) (fun e => absurd e hbus)
    exact ⟨_, congrArg afterWrite hw, syncInv_of_running hb hg (hs.backs hb) (syncOk_of_true _ hops)⟩
  · have hgate : r = .busMask → fieldOf m .gt ≠ 0 := fun e => by simp [hm (hmask e) e]
    obtain ⟨g, hw, hg, hpend⟩ := hs.block.portWrite (m := m) (fun h => by simp [hr] at h) hgate
    refine ⟨_, congrArg afterWrite hw, syncInv_of_running hb hg (hs.backs hb) ?_⟩
    have htail : syncOk g.pending.isSome (s.prog.drop (s.mpc + 1)) = true := (hpend hr).symm ▸ hops
    exact htail

/-- An 8-bit write that the discipline admits completes, and keeps the invariant. -/
theorem SyncInv.write8 {s : State} (hs : SyncInv s) (hb : s.busy = true) {r : Reg} {v : Nat} (a : Answer)
    (hok : syncOk s.gt.pending.isSome (.wr8 r v :: s.prog.drop (s.mpc + 1)) = true) :
    nextKeepsSync (afterWrite (portWrite8 r v a s)) := by
  simp only [syncOk, Bool.and_eq_true, Bool.or_eq_true, decide_eq_true_eq] at hok
  obtain ⟨⟨hsel, hflag⟩, hops⟩ := hok
  have hr : isGt r = true := by
    rcases hsel with rfl | rfl <;> rfl
  obtain ⟨g, hw, hg⟩ := hs.block.portWrite8 v a hr (by simpa using hflag)
  exact ⟨_, congrArg afterWrite hw, syncInv_of_running hb hg (hs.backs hb) (syncOk_of_true _ hops)⟩

/-- A poll keeps the invariant: it goes on when what it waits for is so, and back to itself or to the poll before it. -/
theorem SyncInv.execPoll {s : State} (hs : SyncInv s) (hb : s.busy = true) {r : Reg} {pred : List (RegField × Nat)}
    {back : Nat} (hop : s.prog[s.mpc]? = some (.poll r pred back)) (a : Answer) :
    SyncInv (execPoll r pred back a s) := by
  have hok := hs.tail_cons hb hop
  rw [execPoll_eq]
  refine syncInv_of_running hb hs.block (hs.backs hb) ?_
  cases hx : pollHolds pred (readReg r a s) with
  | true =>
    show syncOk s.gt.pending.isSome (s.prog.drop (s.mpc + 1)) = true
    rw [syncOk] at hok
    split at hok
    · rename_i hsync
      obtain ⟨rfl, rfl⟩ := hsync
      rw [hs.block.pending_of_poll hx]
      exact hok
    · exact hok
  | false =>
    show syncOk s.gt.pending.isSome (s.prog.drop (s.mpc - back)) = true
    rcases backsOk_poll (hs.backs hb) s.mpc hop with rfl | ⟨rfl, ⟨-, hf⟩ | ⟨j, _, _, _, hj, hpoll⟩⟩
    · exact hs.tail hb
    · cases hf
    · have htail := hs.tail hb
      rw [hj] at htail ⊢
      rw [Nat.add_sub_cancel, drop_of_getElem? hpoll]
      exact syncOk_poll_of_tail htail

/-- Every micro-operation of a disciplined program completes and keeps the invariant. -/
theorem SyncInv.execMicro {s : State} (hs : SyncInv s) (hb : s.busy = true) {op : MicroOp} (hop : s.prog[s.mpc]? = some op)
    (a : Answer) : nextKeepsSync (execMicro op a s) := by
  have hok := hs.tail_cons hb hop
  cases op with
  | wr r fs =>
    refine hs.write hb ?_ hok
    rintro rfl rfl
    rfl
  | wrm r fs =>
    refine hs.write hb ?_ hok
    rintro rfl rfl
    rfl
  | wr8 r v => exact hs.write8 hb a hok
  | poll r pred back => exact ⟨_, rfl, hs.execPoll hb hop a⟩
  | rd r =>
    simp only [syncOk, Bool.and_eq_true] at hok
    have hread : SyncInv { record (.read r (readReg r a s)) s with modbuf := readReg r a s } := { hs with }
    exact ⟨_, rfl, hread.advance hb hok.2⟩
  | cal =>
    have hcal : SyncInv { record (.cal (calDraw s.cfg a)) s with calbuf := calDraw s.cfg a } := { hs with }
    exact ⟨_, rfl, hcal.advance hb hok⟩
  | setft g v => exact ⟨_, rfl, SyncInv.advance (s := setFt g v s) { hs with } hb hok⟩
  | setuse c => exact ⟨_, rfl, SyncInv.advance (s := setUsage c s) { hs with } hb hok⟩
  | resp p => exact ⟨_, rfl, syncInv_of_idle rfl hs.block (by simpa [syncOk] using hok)⟩

theorem SyncInv.ctcStep {s : State} (hs : SyncInv s) (a : Answer) : nextKeepsSync (ctcStep a s) := by
  cases hb : s.busy with
  | false => exact ⟨s, ctcStep_idle hb, hs⟩
  | true =>
    obtain ⟨op, hop⟩ := hs.op_of_busy hb
    rw [ctcStep_busy hb hop]
    exact hs.execMicro hb hop a

/-! ### The other turns -/

/-- The issue of any word keeps the invariant. -/
theorem SyncInv.issueWord {s t : State} (hs : SyncInv s) (hb : s.busy = false) (h : issueWord s = .next t) : SyncInv t := by
  obtain ⟨p, hp, rfl⟩ := issueWord_issuedProg h
  exact syncInv_of_running rfl hs.block hp.backsOk (by simpa [hs.idleQuiet hb] using hp.syncOk)

theorem SyncInv.hostStep {s t : State} {a : HostAccess} (hs : SyncInv s) (h : hostStep a s = .next t) : SyncInv t := by
  rcases hostStep_next h with ⟨v, rfl⟩ | ⟨-, rfl⟩ | ⟨hb, -, hi⟩ | rfl | ⟨d, rfl⟩
  · exact { hs with }
  · exact { hs with }
  · exact SyncInv.issueWord (s := { s with cmdLo := a.data, hostReply := .stored }) { hs with } hb hi
  · exact { hs with }
  · exact { hs with }

theorem storeCmdLo_goesOn (v : Word) (s : State) : ∃ t, storeCmdLo v s = .next t := by
  rcases storeCmdLo_cases v s with ⟨-, h⟩ | ⟨-, -, h⟩
  · exact ⟨_, h⟩
  · obtain ⟨p, hp⟩ := issueWord_eq_issue { s with cmdLo := v }
    exact ⟨_, h.trans hp⟩

/-- A host access goes on, is a bus error, or is outside the window (R71, R73). -/
theorem hostStep_outcome (a : HostAccess) (s : State) :
    (∃ t, hostStep a s = .next t) ∨ (∃ k, hostStep a s = .fault (.hostBusError k)) ∨
      hostStep a s = .refused .outsideWindow := by
  have hstore : ∀ r, (∃ t, windowStore r a.data s = .next t) ∨ ∃ k, windowStore r a.data s = .fault (.hostBusError k) := by
    intro r
    cases r with
    | cmdLo => exact .inl (storeCmdLo_goesOn _ _)
    | cmdHi | csr => exact .inl ⟨_, rfl⟩
    | rspLo | rspHi | freq _ | usageLo | usageHi | param => exact .inr ⟨_, rfl⟩
  unfold Machine.hostStep windowAccess
  split
  case isFalse => exact .inr (.inr rfl)
  split
  · exact .inr (.inl ⟨_, rfl⟩)
  split
  · exact .inr (.inl ⟨_, rfl⟩)
  split
  · exact .inr (.inl ⟨_, rfl⟩)
  split
  · exact (hstore _).imp_right .inl
  · exact .inl ⟨_, rfl⟩

/-- GTSYNC keeps the invariant: with nothing in flight the discipline asks less. -/
theorem SyncInv.gtSync {s : State} (hs : SyncInv s) : SyncInv { s with gt := gtSync s.cfg s.gt } := by
  obtain ⟨hg, hp⟩ := syncBlock_gtSync hs.block
  by_cases hb : s.busy = true
  · refine syncInv_of_running hb hg (hs.backs hb) ?_
    have htail : syncOk false (s.prog.drop s.mpc) = true := syncOk_of_quiet (hs.tail hb)
    rw [hp]
    exact htail
  · exact syncInv_of_idle (by simpa using hb) hg hp

/-- Every turn but a block reset that strikes an update in flight keeps the invariant, and only a host access can stop. -/
theorem SyncInv.runTurn {τ : Turn} {s : State} (hs : SyncInv s) (hτ : τ = .blockReset → s.gt.pending = none) :
    nextKeepsSync (runTurn τ s) ∨ (∃ k, runTurn τ s = .fault (.hostBusError k)) ∨ runTurn τ s = .refused .outsideWindow := by
  cases τ with
  | host a =>
    refine (hostStep_outcome a s).imp_left ?_
    rintro ⟨t, ht⟩
    exact ⟨t, ht, hs.hostStep ht⟩
  | ctc a => exact .inl (hs.ctcStep a)
  | gtsync => exact .inl ⟨_, rfl, hs.gtSync⟩
  | blockReset => exact .inl ⟨_, rfl, syncInv_of_idle rfl hs.block (hτ rfl)⟩
  | powerOn => exact .inl ⟨_, rfl, syncInv_of_idle rfl ⟨rfl, fun _ => rfl, fun _ => rfl⟩ rfl⟩

end Sys2Proof.Machine
end

section
/-! PROOFS of the family 40_sequencer.md: what one CTC step can change (R140, R142). -/

namespace Sys2Proof.Machine

/-- A full write changes the gating block only at a GT register or BUS.MASK. -/
theorem gtWrite_eq_or {r : Reg} {m : FieldMap} {g g' : GtState} (h : gtWrite r m g = .ok g') :
    g' = g ∨ isGt r = true ∨ r = .busMask := by
  unfold gtWrite at h
  split at h
  · exact .inr (.inl ‹_›)
  · split at h
    · exact .inr (.inr ‹_›)
    · exact .inl (Except.ok.inj h).symm

/-- An 8-bit write changes the gating block only at a GT register or BUS.MASK. -/
theorem gtWrite8_eq_or {r : Reg} {v : Nat} {free : Option Update} {gate : Bool} {g g' : GtState}
    (h : gtWrite8 r v free gate g = .ok g') : g' = g ∨ isGt r = true ∨ r = .busMask := by
  unfold gtWrite8 at h
  split at h
  · exact .inr (.inl ‹_›)
  · split at h
    · exact .inr (.inr ‹_›)
    · exact .inl (Except.ok.inj h).symm

/-- What a CTC step from `s` to `t` may change when `op?` stands at MPC: each element by its own micro-operation only, and
at most one transaction more (R142). Left out, a field says that the element is as it was. -/
structure CtcFrame (op? : Option MicroOp) (s t : State) : Prop where
  cfg : t.cfg = s.cfg := by rfl
  cur : t.cur = s.cur := by rfl
  prog : t.prog = s.prog := by rfl
  cmdLo : t.cmdLo = s.cmdLo := by rfl
  cmdHi : t.cmdHi = s.cmdHi := by rfl
  drop : t.drop = s.drop := by rfl
  hostReply : t.hostReply = s.hostReply := by rfl
  agenda : t.agenda = s.agenda := by rfl
  drawIx : t.drawIx = s.drawIx := by rfl
  ft : t.ft = s.ft ∨ ∃ g v, op? = some (.setft g v) ∧ t.ft = s.ft.set g v := by exact .inl rfl
  usage : t.usage = s.usage ∨ ∃ c, op? = some (.setuse c) ∧ t.usage = s.usage ||| (1#64 <<< c) := by exact .inl rfl
  response : (t.rspLo = s.rspLo ∧ t.rspHi = s.rspHi ∧ t.rspValid = s.rspValid ∧ t.busy = s.busy ∧ t.phase = s.phase) ∨
    ∃ p, op? = some (.resp p) ∧ t.rspLo = respLo p ∧ t.rspHi = p.freq ∧ t.rspValid = true ∧ t.busy = false ∧
      t.phase = p.phase.getD s.phase := by exact .inl ⟨rfl, rfl, rfl, rfl, rfl⟩
  modbuf : t.modbuf = s.modbuf ∨ ∃ r, op? = some (.rd r) ∧ t.trace = .read r t.modbuf :: s.trace := by exact .inl rfl
  calbuf : t.calbuf = s.calbuf ∨ (op? = some .cal ∧ t.trace = .cal t.calbuf :: s.trace) := by exact .inl rfl
  gt : t.gt = s.gt ∨ ∃ op, op? = some op ∧ (writesGt op = true ∨ writesReg .busMask op = true) := by exact .inl rfl
  trace : t.trace = s.trace ∨ ∃ x, t.trace = x :: s.trace := by exact .inl rfl

/-- A completed full or modifying write changes the gating block, the history and MPC alone. -/
theorem ctcFrame_portWrite {op : MicroOp} {r : Reg} {m : FieldMap} {s t : State} (hgt : writesGt op = isGt r)
    (hbus : writesReg .busMask op = decide (r = .busMask)) (h : portWrite r m s = .ok t) :
    CtcFrame (some op) s (advance t) := by
  obtain ⟨g, rfl, hg⟩ := portWrite_ok h
  have hblock : g = s.gt ∨ isGt r = true ∨ r = .busMask := by
    rcases hg with ⟨-, hg⟩ | ⟨-, hg⟩
    · exact gtWrite_eq_or hg
    · exact .inl hg
  exact
    { gt := hblock.imp_right fun h => ⟨op, rfl, by simpa [hgt, hbus] using h⟩
      trace := .inr ⟨_, rfl⟩ }

/-- A completed 8-bit write changes the gating block, the history and MPC alone. -/
theorem ctcFrame_portWrite8 {r : Reg} {v : Nat} {a : Answer} {s t : State} (h : portWrite8 r v a s = .ok t) :
    CtcFrame (some (.wr8 r v)) s (advance t) := by
  obtain ⟨g, rfl, hg⟩ := portWrite8_ok h
  have hblock : g = s.gt ∨ isGt r = true ∨ r = .busMask := by
    rcases hg with ⟨-, hg⟩ | ⟨-, hg⟩
    · exact gtWrite8_eq_or hg
    · exact .inl hg
  exact
    { gt := hblock.imp_right fun h => ⟨_, rfl, by simpa [writesGt, writesReg] using h⟩
      trace := .inr ⟨_, rfl⟩ }

theorem execMicro_frame {op : MicroOp} {a : Answer} {s t : State} (h : execMicro op a s = .next t) :
    CtcFrame (some op) s t := by
  rcases execMicro_next h with ⟨r, fs, u, rfl, hw, rfl⟩ | ⟨r, v, u, rfl, hw, rfl⟩ | ⟨r, rfl, rfl⟩ |
    ⟨r, fs, u, rfl, hw, rfl⟩ | ⟨r, pred, back, rfl, rfl⟩ | ⟨rfl, rfl⟩ | ⟨g, v, rfl, rfl⟩ | ⟨c, rfl, rfl⟩ | ⟨p, rfl, rfl⟩
  · exact ctcFrame_portWrite rfl rfl hw
  · exact ctcFrame_portWrite8 hw
  · exact { modbuf := .inr ⟨r, rfl, rfl⟩, trace := .inr ⟨_, rfl⟩ }
  · exact ctcFrame_portWrite rfl rfl hw
  · rw [execPoll_eq]
    exact { trace := .inr ⟨_, rfl⟩ }
  · exact { calbuf := .inr ⟨rfl, rfl⟩, trace := .inr ⟨_, rfl⟩ }
  · exact { ft := .inr ⟨g, v, rfl, rfl⟩ }
  · exact { usage := .inr ⟨c, rfl, rfl⟩ }
  · exact { response := .inr ⟨p, rfl, rfl, rfl, rfl, rfl, rfl⟩ }

/-- All that a CTC step can change when it goes on (R140, R142). -/
theorem ctcStep_frame {a : Answer} {s t : State} (h : ctcStep a s = .next t) : CtcFrame s.prog[s.mpc]? s t := by
  rcases ctcStep_next h with ⟨-, rfl⟩ | ⟨op, -, hop, he⟩
  · exact {}
  · exact hop ▸ execMicro_frame he

end Sys2Proof.Machine
end

section
/-! PROOFS of the family 40_sequencer.md: commands that run to completion under a prompt environment.

`PromptIn n s post` says that `n` CTC steps, GTSYNC stepping after each, lead from `s` to a state as `post` says. A command's
run is put together from `promptIn_micro`, one micro-operation, and `promptIn_write_sync`, a write to a GT register with
the SeqSync after it, the pair that SeqGen, SeqChan and SeqStby are made of (R150 to R152). -/

namespace Sys2Proof.Machine

/-! ### Steps -/

/-- The state after GTSYNC's step (R258). -/
def settle (s : State) : State := { s with gt := gtSync s.cfg s.gt }

/-- The state with another gating block. -/
def withBlock (g : GtState) (s : State) : State := { s with gt := g }

/-- In `n` prompt CTC steps, whatever a ready environment offers, the run goes on to a state as `post` says. -/
def PromptIn (n : Nat) (s : State) (post : State → Prop) : Prop :=
  ∀ as : List Answer, as.length = n → (∀ a ∈ as, envReady s.cfg a = true) →
    ∃ u, runTurns (prompt as) s = .next u ∧ post u

theorem promptIn_zero {s : State} {post : State → Prop} (h : post s) : PromptIn 0 s post := by
  intro as hn _
  rw [List.length_eq_zero_iff.1 hn]
  exact ⟨s, rfl, h⟩

/-- A CTC step, then GTSYNC's. -/
theorem promptIn_succ {n : Nat} {s : State} {post : State → Prop}
    (h : ∀ a, envReady s.cfg a = true → ∃ t, ctcStep a s = .next t ∧ PromptIn n (settle t) post) :
    PromptIn (n + 1) s post := by
  intro as hn henv
  cases as with
  | nil => cases hn
  | cons a as =>
    obtain ⟨t, ht, hrun⟩ := h a (henv a (by simp))
    have hcfg : (settle t).cfg = s.cfg := (ctcStep_frame ht).cfg
    obtain ⟨u, hu, hpost⟩ := hrun as (Nat.succ.inj hn) fun b hb => hcfg ▸ henv b (by simp [hb])
    refine ⟨u, ?_, hpost⟩
    rw [prompt_cons, runTurns, runTurn_ctc, ht]
    exact hu

/-- The micro-operation at MPC, then GTSYNC's step. -/
theorem promptIn_micro {n : Nat} {s : State} {post : State → Prop} {op : MicroOp} (hb : s.busy = true)
    (hop : s.prog[s.mpc]? = some op)
    (h : ∀ a, envReady s.cfg a = true → ∃ t, execMicro op a s = .next t ∧ PromptIn n (settle t) post) :
    PromptIn (n + 1) s post :=
  promptIn_succ fun a ha => by
    rw [ctcStep_busy hb hop]
    exact h a ha

/-- The state after an RD of `r` that returned `x`. -/
def filled (r : Reg) (x : FieldMap) (s : State) : State :=
  { s with modbuf := x, mpc := s.mpc + 1, trace := .read r x :: s.trace }

/-- An RD, whatever it returns, then GTSYNC's step. -/
theorem promptIn_rd {n : Nat} {s : State} {post : State → Prop} {r : Reg} (hb : s.busy = true)
    (hop : s.prog[s.mpc]? = some (.rd r)) (h : ∀ x, PromptIn n (settle (filled r x s)) post) :
    PromptIn (n + 1) s post :=
  promptIn_micro hb hop fun a _ => ⟨_, rfl, h (readReg r a s)⟩

/-- The state elements that a command's run leaves alone, from its issue on (`sameWindow`), are the same in both states. -/
structure KeepsWindow (s t : State) : Prop where
  cfg : t.cfg = s.cfg := by rfl
  cmdLo : t.cmdLo = s.cmdLo := by rfl
  cmdHi : t.cmdHi = s.cmdHi := by rfl
  drop : t.drop = s.drop := by rfl
  cur : t.cur = s.cur := by rfl
  hostReply : t.hostReply = s.hostReply := by rfl
  agenda : t.agenda = s.agenda := by rfl
  drawIx : t.drawIx = s.drawIx := by rfl

theorem KeepsWindow.trans {s t u : State} (h : KeepsWindow s t) (h' : KeepsWindow t u) : KeepsWindow s u where
  cfg := h'.cfg.trans h.cfg
  cmdLo := h'.cmdLo.trans h.cmdLo
  cmdHi := h'.cmdHi.trans h.cmdHi
  drop := h'.drop.trans h.drop
  cur := h'.cur.trans h.cur
  hostReply := h'.hostReply.trans h.hostReply
  agenda := h'.agenda.trans h.agenda
  drawIx := h'.drawIx.trans h.drawIx

/-- No CTC step and no step of GTSYNC changes them (R140, R258). -/
theorem keepsWindow_of_prompt {as : List Answer} {s u : State} (h : runTurns (prompt as) s = .next u) : KeepsWindow s u := by
  induction as generalizing s with
  | nil =>
    cases h
    exact {}
  | cons a as ih =>
    rw [prompt_cons, runTurns, runTurn_ctc] at h
    cases ht : ctcStep a s with
    | next t =>
      rw [ht] at h
      have hframe := ctcStep_frame ht
      have hstep : KeepsWindow s (settle t) := { hframe with }
      exact hstep.trans (ih h)
    | fault f => simp [ht] at h
    | refused r => simp [ht] at h

/-- A command completes when its micro-program leads to its response and to a state as `post` says. -/
theorem completesIn_of_promptIn {n : Nat} {i : Instr} {s : State} {post : State → Prop} {p : List MicroOp}
    (he : exec i s = .next (issue p s))
    (h : PromptIn n (issue p s) fun u => u.busy = false ∧ u.rspValid = true ∧ post u) : completesIn n i s post := by
  intro as hn henv
  obtain ⟨u, hu, hb, hv, hpost⟩ := h as hn henv
  obtain ⟨hcfg, hlo, hhi, hdrop, hcur, hreply, hagenda, hdraw⟩ := keepsWindow_of_prompt hu
  exact ⟨_, u, he, hu, hb, hv, ⟨hcfg, hlo, hhi, hdrop, hcur, hreply, hagenda, hdraw⟩, hpost⟩

/-! ### GT writes and SeqSync -/

/-- The gating block has nothing in flight, and where the gate is open SYNCBUSY shows it. -/
def BlockSettled (g : GtState) : Prop := g.pending = none ∧ (g.gten = true → g.syncbusy = false)

/-- A state whose block a poll for SYNCBUSY = 0 finds ready, where the module is used. -/
def Settled (s : State) : Prop := s.cfg.gating = true → BlockSettled s.gt

theorem quiet_of_pending {s : State} (h : s.cfg.gating = true → s.gt.pending = none) : quiet s = true := by
  cases hc : s.cfg.gating <;> simp [quiet, hc, h]

/-- GTSYNC leaves nothing in flight. -/
theorem quiet_settle (s : State) : quiet (settle s) = true := by
  refine quiet_of_pending fun _ => ?_
  unfold settle gtSync
  cases h : s.gt.pending with
  | none => exact h
  | some u => rfl

/-- A recorded update, or a closed gate, leaves a block that GTSYNC settles (R254, R255, R258). -/
theorem blockSettled_recordUpdate (c : Config) {g : GtState} (u : Update) (hp : g.pending = none) :
    ∃ g', recordUpdate (some u) g = .ok g' ∧ BlockSettled (gtSync c g') := by
  cases hopen : g.gten with
  | true => exact ⟨_, (if_neg (by simp [hp])).trans (if_pos hopen), rfl, fun _ => rfl⟩
  | false => exact ⟨g, by simp [recordUpdate, hp, hopen], by simp [gtSync, hp, BlockSettled, hopen]⟩

/-- In `s`, `op` is the transaction `w`, a write that GTSYNC settles. -/
def WritesAndSettles (op : MicroOp) (w : Txn) (s : State) : Prop :=
  ∀ a, ∃ g, execMicro op a s = .next (advance (record w (withBlock g s))) ∧ Settled (settle (withBlock g s))

/-- A full write to a GT register that records an update, with nothing in flight before it. -/
theorem portWrite_settles {s : State} {r : Reg} {m : FieldMap} {u : Update} (hq : quiet s = true) (hr : isGt r = true)
    (hu : writeUpdate r m = some u) :
    ∃ g, portWrite r m s = .ok (record (.write r m) (withBlock g s)) ∧ Settled (settle (withBlock g s)) := by
  unfold portWrite
  cases hc : s.cfg.gating with
  | false => exact ⟨s.gt, rfl, fun h => absurd (hc.symm.trans h) nofun⟩
  | true =>
    have hp : s.gt.pending = none := by simpa [quiet, hc] using hq
    obtain ⟨g, hw, hg⟩ := blockSettled_recordUpdate s.cfg u hp
    exact ⟨g, by simp [gtWrite, hr, hu, hw, withBlock], fun _ => hg⟩

theorem writesAndSettles_wr {s : State} {r : Reg} {fs : List (RegField × Val)} {u : Update} (hq : quiet s = true)
    (hr : isGt r = true) (hu : writeUpdate r (fullWrite r (evalFields s.calbuf fs)) = some u) :
    WritesAndSettles (.wr r fs) (.write r (fullWrite r (evalFields s.calbuf fs))) s := by
  intro a
  obtain ⟨g, hw, hg⟩ := portWrite_settles hq hr hu
  exact ⟨g, congrArg afterWrite hw, hg⟩

theorem writesAndSettles_wrm {s : State} {r : Reg} {fs : List (RegField × Val)} {u : Update} (hq : quiet s = true)
    (hr : isGt r = true) (hu : writeUpdate r (modifyWrite r (evalFields s.calbuf fs) s.modbuf) = some u) :
    WritesAndSettles (.wrm r fs) (.write r (modifyWrite r (evalFields s.calbuf fs) s.modbuf)) s := by
  intro a
  obtain ⟨g, hw, hg⟩ := portWrite_settles hq hr hu
  exact ⟨g, congrArg afterWrite hw, hg⟩

/-- The select write of GT.GENCTRL (R152, R262). -/
theorem writesAndSettles_wr8 {s : State} (hq : quiet s = true) (v : Nat) :
    WritesAndSettles (.wr8 .gtGenctrl v) (.write8 .gtGenctrl v) s := by
  intro a
  show ∃ g, afterWrite (portWrite8 _ _ _ _) = _ ∧ _
  unfold portWrite8
  cases hc : s.cfg.gating with
  | false => exact ⟨s.gt, rfl, fun h => absurd (hc.symm.trans h) nofun⟩
  | true =>
    have hp : s.gt.pending = none := by simpa [quiet, hc] using hq
    obtain ⟨g, hw, hg⟩ := blockSettled_recordUpdate s.cfg (.selgen v) hp
    exact ⟨g, by simp [gtWrite8, writeUpdate8, isGt, hw, withBlock, afterWrite], fun _ => hg⟩

/-- In a settled state, under a ready environment, the poll for SYNCBUSY = 0 holds at its first read (R147, R256). -/
theorem pollHolds_of_settled {s : State} {a : Answer} (hs : Settled s) (ha : envReady s.cfg a = true) :
    pollHolds [(.syncbusy, 0)] (readReg .gtStatus a s) = true := by
  have hdraw : pollHolds [(.syncbusy, 0)] (readValue s.cfg .gtStatus [] a) = true := by
    simp only [envReady, Bool.and_eq_true] at ha
    exact ha.1.2
  cases hc : s.cfg.gating with
  | false => simpa [readReg, hc] using hdraw
  | true =>
    cases hopen : s.gt.gten with
    | false => simpa [readReg, hc, gtKnown, hopen] using hdraw
    | true =>
      have hread : fieldOf (readReg .gtStatus a s) .syncbusy = s.gt.syncbusy.toNat :=
        fieldOf_readReg_known a hc (if_pos hopen) (by decide) rfl (toNat_lt_fieldWidth _ rfl)
      simp [pollHolds, hread, (hs hc).2 hopen]

/-- The state after the write `w` and the SeqSync that read `x`, the gating block then being `g`. -/
def synced (w : Txn) (x : FieldMap) (g : GtState) (s : State) : State :=
  { s with gt := g, mpc := s.mpc + 2, trace := .read .gtStatus x :: w :: s.trace }

/-- A write to a GT register and its SeqSync: two transactions, the block quiet after them. -/
theorem promptIn_write_sync {n : Nat} {s : State} {post : State → Prop} {op : MicroOp} {w : Txn} (hb : s.busy = true)
    (hop : s.prog[s.mpc]? = some op) (hpoll : s.prog[s.mpc + 1]? = some (.poll .gtStatus [(.syncbusy, 0)] 0))
    (hw : WritesAndSettles op w s)
    (h : ∀ g x, quiet (synced w x g s) = true → PromptIn n (synced w x g s) post) :
    PromptIn (n + 2) s post := by
  refine promptIn_micro hb hop fun a _ => ?_
  obtain ⟨g, hstep, hg⟩ := hw a
  refine ⟨_, hstep, promptIn_micro hb hpoll fun b hready => ?_⟩
  have hholds := pollHolds_of_settled (s := settle (advance (record w (withBlock g s)))) hg hready
  refine ⟨_, rfl, ?_⟩
  rw [execPoll_eq, if_pos hholds]
  exact h _ _ (quiet_settle (settle (withBlock g s)))

/-! ### The allocation commands' micro-programs and what they leave (R210, R219, R224, R227) -/

theorem exec_claim_ok {g : GenId} {idc : Bool} {k : SourceKind} {d f : Nat} {s : State} (hp : s.phase = .configured)
    (hz : freqOf s g = 0) (hd : legalDivider g d = true) (hf : sourceFreq s.ft k = some f) (hq : f / d ≠ 0) :
    exec (.claim g idc k d) s = .next (issue (claimOk g idc k d (BitVec.ofNat 32 (f / d)) s) s) := by
  have hprog : progClaim g idc k d s = claimOk g idc k d (BitVec.ofNat 32 (f / d)) s := by
    simp [progClaim, hz, hd, hf, hq]
  rw [exec_eq, ← hprog]
  exact congrArg (fun p => Host.Outcome.next (issue p s)) (if_pos hp)

theorem exec_standby_ok {g : GenId} {en : Bool} {s : State} (hp : s.phase = .configured) :
    exec (.standby g en) s = .next (issue (progStandby g en) s) :=
  congrArg (fun p => Host.Outcome.next (issue p s)) (if_pos hp)

/-- RSP_LO of a handle: KIND 1 above STATUS 0, and the generator in bits 10:8 (R106, R210). -/
theorem respLo_handleResp (g : GenId) (f : Word) : respLo (handleResp g f) = BitVec.ofNat 32 (0x10 + 0x100 * g) := by
  have h : ∀ g : GenId, respLo (handleResp g 0) = BitVec.ofNat 32 (0x10 + 0x100 * g) := by decide
  exact h g

/-- RSP_LO of a token: KIND 2 above STATUS 0, and the channel in bits 21:16 (R106, R224). -/
theorem respLo_tokenResp {ch : Nat} (h : ch < 64) (f : Word) :
    respLo (tokenResp ch f) = BitVec.ofNat 32 (0x20 + 0x10000 * ch) := by
  have h64 : ∀ c : Fin 64, respLo (tokenResp c 0) = BitVec.ofNat 32 (0x20 + 0x10000 * c) := by decide
  exact h64 ⟨ch, h⟩

/-- A USAGE bit set besides those set before (R23). -/
theorem getLsbD_or_one_shiftLeft (u : BitVec 64) {ch c : Nat} (hc : c < 64) :
    (u ||| (1#64 <<< ch)).getLsbD c = (u.getLsbD c || decide (c = ch)) := by
  rw [BitVec.getLsbD_or]
  congr 1
  rw [Bool.eq_iff_iff]
  simp [hc]
  omega

/-- A modifying write of one field carries its value there. -/
theorem fieldOf_modifyWrite_same {r : Reg} {f : RegField} (hf : f ∈ regFields r) (v : Nat) (buf : FieldMap) :
    fieldOf (modifyWrite r [(f, v)] buf) f = v := by
  simp [fieldOf_modifyWrite hf]

/-- A modifying write of one field carries every other as it stands in MODBUF (R79). -/
theorem fieldOf_modifyWrite_other {r : Reg} {f f' : RegField} (hf : f' ∈ regFields r) (hne : f' ≠ f) (v : Nat)
    (buf : FieldMap) : fieldOf (modifyWrite r [(f, v)] buf) f' = fieldOf buf f' := by
  have hlk : (f' == f) = false := by simpa using hne
  simp [fieldOf_modifyWrite hf, List.lookup_cons, hlk]

end Sys2Proof.Machine
end

section
/-! PROOFS: the obligations of the family 40_sequencer.md. -/

namespace Sys2Proof.Machine

/-! ### The sync discipline (R148, R267) -/

/-- Settles O54, turn by turn (`SyncInv.runTurn`); taking the turn leaves the gating block as it is. -/
theorem noGtWriteDuringSync : Obligations.NoGtWriteDuringSync := by
  intro s hs hreset
  obtain ⟨ag, ix, he⟩ := takeTurn_eq s
  have htaken : SyncInv (takeTurn s) := he ▸ { hs with }
  have hgt : (takeTurn s).gt = s.gt := he ▸ rfl
  exact htaken.runTurn fun h => hgt ▸ hreset h

/-- Settles O53: no command runs after reset and nothing is in flight. -/
theorem resetHasTheSyncInvariant : Obligations.ResetHasTheSyncInvariant :=
  syncInv_of_idle rfl ⟨rfl, fun _ => rfl, fun _ => rfl⟩ rfl

/-- Settles O36: the micro-program a command is issued with is one of `IssuedProg`. -/
theorem everyMicroProgramIsDisciplined : Obligations.EveryMicroProgramIsDisciplined := by
  intro i s t h
  obtain ⟨p, hp, rfl⟩ := exec_issuedProg h
  exact ⟨hp.ends, hp.backsOk, hp.syncOk⟩

/-! ### The micro-operation machine (40_sequencer.md section 1) -/

/-- Settles O39: the parts of `ctcStep_frame`. -/
theorem ctcStepFrame : Obligations.CtcStepFrame := by
  intro a s t h
  obtain ⟨hcfg, hcur, hprog, hlo, hhi, hdrop, hreply, hagenda, hdraw, hft, husage, hresp, hmod, hcal, hgt, htrace⟩ :=
    ctcStep_frame h
  refine ⟨fun hb => ?_, ⟨hcfg, hcur, hprog, hlo, hhi, hdrop, hreply, hagenda, hdraw⟩, hft, husage, hresp, hmod, hcal,
    hgt, htrace⟩
  exact Host.Outcome.next.inj (h.symm.trans (ctcStep_idle hb))

/-- Settles O40: the poll reads once, and its predicate lists what the fields must read. -/
theorem pollGoesOnOrBack : Obligations.PollGoesOnOrBack := by
  intro s a r pred back hb hop
  refine ⟨readReg r a s, (ctcStep_busy hb hop).trans ?_⟩
  simp only [execMicro, execPoll_eq, pollHolds, List.all_eq_true, decide_eq_true_eq]

/-! ### The transactions of each micro-program (R154, R187) -/

/-- Settles O38: each list is counted as it stands; only OPEN's ratio write is a parameter's choice (R182). -/
theorem transactionCounts : Obligations.TransactionCounts := by
  refine ⟨fun c => ⟨rfl, rfl, rfl, ?_, rfl⟩, rfl, rfl, fun _ _ _ _ _ => rfl, fun _ _ => rfl, fun _ _ => rfl,
    fun _ => ⟨rfl, rfl, rfl⟩⟩
  simp only [portCount, prog48, multStep, multMulWrite, List.countP_append]
  split <;> rfl

/-! ### The allocation commands (42_allocation.md sections 2 to 4) -/

/-- Settles O24: SeqGen is two GT writes, each with its SeqSync; then FT[g] and the handle. -/
theorem claimConfiguresTheGenerator : Obligations.ClaimConfiguresTheGenerator := by
  intro g idc k d f s hp hq hz hd1 hd hf hne
  have hlegal : legalDivider g d = true := by simp [legalDivider, maxDiv, hd1, hd]
  refine completesIn_of_promptIn (exec_claim_ok hp hz hlegal hf hne) ?_
  refine promptIn_write_sync rfl rfl rfl (writesAndSettles_wr hq rfl rfl) fun g₁ x₁ hq₁ => ?_
  refine promptIn_write_sync rfl rfl rfl (writesAndSettles_wr hq₁ rfl rfl) fun g₂ x₂ _ => ?_
  refine promptIn_micro (op := .setft g _) rfl rfl fun _ _ => ⟨_, rfl, ?_⟩
  refine promptIn_micro (op := .resp _) rfl rfl fun _ _ => ⟨_, rfl, promptIn_zero ?_⟩
  exact ⟨rfl, rfl, rfl, rfl, hp, respLo_handleResp g _, rfl, rfl, rfl,
    x₁, x₂, rfl⟩

/-- Settles O27: the USAGE bit, SeqChan's one GT write with its SeqSync, then the token. -/
theorem enableIssuesTheToken : Obligations.EnableIssuesTheToken := by
  intro ch g s hp hq hch h64 hf hu
  refine completesIn_of_promptIn (exec_enable_ok hp hch hf hu) ?_
  refine promptIn_micro (op := .setuse ch) rfl rfl fun _ _ => ⟨_, rfl, ?_⟩
  refine promptIn_write_sync rfl rfl rfl (writesAndSettles_wr (quiet_settle _) rfl rfl) fun g₁ x _ => ?_
  refine promptIn_micro (op := .resp _) rfl rfl fun _ _ => ⟨_, rfl, promptIn_zero ?_⟩
  exact ⟨rfl, rfl, rfl, fun c hc => getLsbD_or_one_shiftLeft _ hc, hp,
    respLo_tokenResp h64 _, rfl, rfl, rfl, x, rfl⟩

/-- Settles O30: the select write and the Modify are GT writes, each with its SeqSync, the Modify's read between them. -/
theorem standbyCompletes : Obligations.StandbyCompletes := by
  intro g en s hp hq
  refine completesIn_of_promptIn (exec_standby_ok hp) ?_
  refine promptIn_write_sync rfl rfl rfl (writesAndSettles_wr8 (s := issue _ s) hq g) fun g₁ x₁ hq₁ => ?_
  refine promptIn_rd (r := .gtGenctrl) rfl rfl fun x₂ => ?_
  refine promptIn_write_sync rfl rfl rfl (writesAndSettles_wrm (quiet_settle _) rfl rfl) fun g₂ x₃ _ => ?_
  refine promptIn_micro (op := .resp _) rfl rfl fun _ _ => ⟨_, rfl, promptIn_zero ?_⟩
  dsimp only [settle, respond, synced, filled, issue]
  exact ⟨rfl, rfl, rfl, rfl, hp, rfl, rfl, rfl, x₁, x₂, x₃, _, rfl, rfl,
    fieldOf_modifyWrite_same (f := .runstdby) (by decide) _ _, fun f hf hne => fieldOf_modifyWrite_other hf hne _ _⟩

end Sys2Proof.Machine
end

section
/-! PROOFS of the family 41_bringup.md: lists of micro-operations that run one after another under a prompt environment.

`Performs b ops cs` says that `ops`, wherever they stand, run one after another, record what they list, and carry `cs` in
their transactions, `b` being the calibration that CALBUF holds. It holds of the few forms that the steps of a bring-up are
made of (a full write, a Modify, a poll of OSC.STATUS, a GT write with its SeqSync, SeqReset, a record), and of lists that
perform in turn (`performs_append`). -/

namespace Sys2Proof.Machine

/-! ### Transactions against what they are to carry -/

/-- Two field maps give the same value to every field of `r`, a field that is not listed the value 0 (R75). -/
def SameFields (r : Reg) (m m' : FieldMap) : Prop := (regFields r).map (fieldOf m) = (regFields r).map (fieldOf m')

theorem carriesAll_append {cs ds : List Carries} {ts us : List Txn} (h : carriesAll cs ts = true)
    (h' : carriesAll ds us = true) : carriesAll (cs ++ ds) (ts ++ us) = true := by
  induction cs, ts using carriesAll.induct with
  | case1 => exact h'
  | case2 r fs ps r' m ts ih
  | case3 r ps r' m ts ih
  | case4 r f v ps r' x r'' m ts ih
  | case5 c ps c' ts ih =>
    simp only [carriesAll, Bool.and_eq_true] at h
    simp only [List.cons_append, carriesAll, Bool.and_eq_true]
    exact ⟨h.1, ih h.2⟩
  | case6 cs ts => simp [carriesAll] at h

/-- How many transactions are said to be carried: two for a Modify, else one (R79). -/
def txnCount : List Carries → Nat
  | [] => 0
  | .modify _ _ _ :: cs => txnCount cs + 2
  | .wr _ _ :: cs | .rd _ :: cs | .cal _ :: cs => txnCount cs + 1

/-- Whether a transaction is a calibration read (R81). -/
def isCalTxn : Txn → Bool
  | .cal _ => true
  | .write _ _ | .write8 _ _ | .read _ _ => false

/-- Whether a calibration read is said to be carried. -/
def isCalCarry : Carries → Bool
  | .cal _ => true
  | .wr _ _ | .rd _ | .modify _ _ _ => false

theorem counts_of_carriesAll {cs : List Carries} {ts : List Txn} (h : carriesAll cs ts = true) :
    ts.length = txnCount cs ∧ ts.countP isCalTxn = cs.countP isCalCarry := by
  induction cs, ts using carriesAll.induct with
  | case1 => exact ⟨rfl, rfl⟩
  | case2 r fs ps r' m ts ih
  | case3 r ps r' m ts ih
  | case4 r f v ps r' x r'' m ts ih
  | case5 c ps c' ts ih =>
    simp only [carriesAll, Bool.and_eq_true] at h
    simp [txnCount, List.countP_cons, isCalTxn, isCalCarry, ih h.2]
  | case6 cs ts => simp [carriesAll] at h

theorem carriesAll_write {r : Reg} {m fs : FieldMap} (h : SameFields r m fs) :
    carriesAll [.wr r fs] [.write r (fullWrite r m)] = true := by
  have hfield : ∀ f ∈ regFields r, fieldOf m f = fieldOf fs f := List.map_inj_left.1 h
  simp only [carriesAll, Bool.and_eq_true, decide_true, decide_eq_true_eq, List.all_eq_true, and_true, true_and]
  exact ⟨map_fst_pair _ _, fun f hf => (fieldOf_fullWrite hf).trans (hfield f hf)⟩

theorem carriesAll_modify {r : Reg} {f : RegField} (v : Nat) (x : FieldMap) :
    carriesAll [.modify r f v] [.read r x, .write r (modifyWrite r [(f, v)] x)] = true := by
  simp only [carriesAll, Bool.and_eq_true, decide_true, decide_eq_true_eq, List.all_eq_true, and_true, true_and]
  refine ⟨map_fst_pair _ _, fun f' hf => ?_⟩
  split
  · subst f'
    exact fieldOf_modifyWrite_same hf v x
  · exact fieldOf_modifyWrite_other hf ‹_› v x

/-! ### Lists of micro-operations that perform -/

/-- The CTC stands, with no update in flight, before the micro-operations `ops`, the rest of its micro-program. -/
structure Before (ops : List MicroOp) (s : State) : Prop where
  busy : s.busy = true
  quiet : quiet s = true
  rest : s.prog.drop s.mpc = ops

/-- The state after `ops`, none of them a calibration read or a response: FT and USAGE as they record, MPC past them, their
transactions `new`, the gating block then being `g` and MODBUF `m`. -/
def after (ops : List MicroOp) (g : GtState) (m : FieldMap) (new : List Txn) (s : State) : State :=
  { s with
    ft := (ops.foldl recordOne (s.ft, s.usage)).1, usage := (ops.foldl recordOne (s.ft, s.usage)).2, gt := g, modbuf := m,
    mpc := s.mpc + ops.length, trace := new ++ s.trace }

theorem after_after (ops ops' : List MicroOp) (g g' : GtState) (m m' : FieldMap) (new new' : List Txn) (s : State) :
    after ops' g' m' new' (after ops g m new s) = after (ops ++ ops') g' m' (new' ++ new) s := by
  simp [after, List.foldl_append, Nat.add_assoc]

/-- A state whose gating block GTSYNC has just stepped in has nothing in flight (R258). -/
theorem quiet_of_gtSync {s : State} {c : Config} {g : GtState} (h : s.gt = gtSync c g) : quiet s = true := by
  refine quiet_of_pending fun _ => ?_
  rw [h, gtSync]
  cases hp : g.pending with
  | none => exact hp
  | some u => rfl

theorem Before.after {ops rest : List MicroOp} {s : State} (h : Before (ops ++ rest) s) {g : GtState} (m : FieldMap)
    (new : List Txn) (hq : Machine.quiet (after ops g m new s) = true) : Before rest (after ops g m new s) where
  busy := h.busy
  quiet := hq
  rest := by
    show s.prog.drop (s.mpc + ops.length) = rest
    rw [← List.drop_drop, h.rest, List.drop_left]

theorem Before.op {op : MicroOp} {rest : List MicroOp} {s : State} (h : Before (op :: rest) s) :
    s.prog[s.mpc]? = some op := by
  rw [← List.head?_drop, h.rest, List.head?_cons]

/-- The micro-operation at MPC, then GTSYNC's step. -/
theorem promptIn_op {n : Nat} {s : State} {op : MicroOp} {rest : List MicroOp} {post : State → Prop}
    (hs : Before (op :: rest) s)
    (h : ∀ a, envReady s.cfg a = true → ∃ g m new, execMicro op a s = .next (after [op] g m new s) ∧
      (Before rest (after [op] (gtSync s.cfg g) m new s) → PromptIn n (after [op] (gtSync s.cfg g) m new s) post)) :
    PromptIn (n + 1) s post := by
  refine promptIn_micro hs.busy hs.op fun a ha => ?_
  obtain ⟨g, m, new, he, hrun⟩ := h a ha
  exact ⟨_, he, hrun (Before.after (ops := [op]) hs m new (quiet_of_gtSync rfl))⟩

/-- A poll that holds at its first read, whatever a ready environment offers. -/
theorem promptIn_poll {n : Nat} {s : State} {r : Reg} {pred : List (RegField × Nat)} {back : Nat} {rest : List MicroOp}
    {post : State → Prop} (hs : Before (.poll r pred back :: rest) s)
    (hholds : ∀ a, envReady s.cfg a = true → pollHolds pred (readReg r a s) = true)
    (h : ∀ x, Before rest (after [.poll r pred back] (gtSync s.cfg s.gt) s.modbuf [.read r x] s) →
      PromptIn n (after [.poll r pred back] (gtSync s.cfg s.gt) s.modbuf [.read r x] s) post) :
    PromptIn (n + 1) s post := by
  refine promptIn_op hs fun a ha => ⟨s.gt, s.modbuf, [.read r (readReg r a s)], ?_, h _⟩
  show Host.Outcome.next (execPoll _ _ _ _ _) = _
  rw [execPoll_eq, if_pos (hholds a ha)]
  rfl

/-- Wherever they stand, `ops` run one after another, record what they list, and carry `cs`. -/
def Performs (b : CalBuf) (ops : List MicroOp) (cs : List Carries) : Prop :=
  ∀ (n : Nat) (s : State) (rest : List MicroOp) (post : State → Prop), s.calbuf = b → Before (ops ++ rest) s →
    (∀ g m new, Before rest (after ops g m new s) → carriesAll cs new.reverse = true →
      PromptIn n (after ops g m new s) post) →
    PromptIn (n + ops.length) s post

theorem performs_nil (b : CalBuf) : Performs b [] [] := by
  intro n s rest post _ h hrun
  exact hrun s.gt s.modbuf [] h rfl

theorem performs_append {b : CalBuf} {ops ops' : List MicroOp} {cs cs' : List Carries} (h : Performs b ops cs)
    (h' : Performs b ops' cs') : Performs b (ops ++ ops') (cs ++ cs') := by
  intro n s rest post hb hs hrun
  rw [List.length_append, Nat.add_comm ops.length, ← Nat.add_assoc]
  refine h _ _ _ _ hb (List.append_assoc .. ▸ hs) fun g m new hs' hnew => ?_
  refine h' _ _ _ _ hb hs' fun g' m' new' hs'' hnew' => ?_
  rw [after_after] at hs'' ⊢
  refine hrun _ _ _ hs'' ?_
  rw [List.reverse_append]
  exact carriesAll_append hnew hnew'

/-- A micro-operation of one transaction before a list that performs. -/
theorem performs_cons {b : CalBuf} {op : MicroOp} {ops : List MicroOp} {x : Carries} {cs : List Carries}
    (h : Performs b [op] [x]) (h' : Performs b ops cs) : Performs b (op :: ops) (x :: cs) :=
  performs_append h h'

/-- A list of one micro-operation performs when its step does. -/
theorem performs_one {b : CalBuf} {op : MicroOp} {cs : List Carries}
    (hstep : ∀ s a, s.calbuf = b → quiet s = true → envReady s.cfg a = true →
      ∃ g m new, execMicro op a s = .next (after [op] g m new s) ∧ carriesAll cs new.reverse = true) :
    Performs b [op] cs := by
  intro n s rest post hb hs hrun
  refine promptIn_op hs fun a ha => ?_
  obtain ⟨g, m, new, he, hnew⟩ := hstep s a hb hs.quiet ha
  exact ⟨g, m, new, he, fun hs' => hrun _ m new hs' hnew⟩

/-! ### The forms that the steps of a bring-up are made of -/

theorem performs_wr {b : CalBuf} {r : Reg} {fs : List (RegField × Val)} {m : FieldMap}
    (h : SameFields r (evalFields b fs) m) : Performs b [.wr r fs] [.wr r m] := by
  refine performs_one fun s a hb hq _ => ?_
  subst hb
  obtain ⟨g, hw⟩ := portWrite_quiet r (fullWrite r (evalFields s.calbuf fs)) hq
  exact ⟨g, s.modbuf, [_], congrArg afterWrite hw, carriesAll_write h⟩

theorem performs_setft (b : CalBuf) (g : GenId) (v : Word) : Performs b [.setft g v] [] :=
  performs_one fun s _ _ _ _ => ⟨s.gt, s.modbuf, [], rfl, rfl⟩

theorem performs_setuse (b : CalBuf) (ch : Nat) : Performs b [.setuse ch] [] :=
  performs_one fun s _ _ _ _ => ⟨s.gt, s.modbuf, [], rfl, rfl⟩

/-- A ready environment offers every flag of OSC.STATUS (R178, R340). -/
theorem performs_pollOsc (b : CalBuf) {pred : List (RegField × Nat)}
    (h : pred ⊆ [(.int32kRdy, 1), (.ext32kRdy, 1), (.multRdy, 1), (.multLockc, 1), (.multLockf, 1)]) :
    Performs b [.poll .oscStatus pred 0] [.rd .oscStatus] := by
  intro n s rest post _ hs hrun
  refine promptIn_poll hs (fun a ha => ?_) fun x hs' => hrun _ s.modbuf [.read .oscStatus x] hs' rfl
  have hread : readReg .oscStatus a s = readValue s.cfg .oscStatus [] a := by
    unfold readReg
    split <;> rfl
  simp only [envReady, Bool.and_eq_true] at ha
  rw [hread]
  exact List.all_eq_true.2 fun p hp => List.all_eq_true.1 ha.2 p (h hp)

/-- A Modify is a read, then a write that changes one field of what was read (R79). -/
theorem performs_modify (b : CalBuf) (r : Reg) (f : RegField) (v : Nat) :
    Performs b (seqModify r f v) [.modify r f v] := by
  intro n s rest post _ hs hrun
  refine promptIn_op hs fun a _ => ⟨s.gt, readReg r a s, [.read r (readReg r a s)], rfl, fun hs₁ => ?_⟩
  generalize readReg r a s = x at hs₁ ⊢
  refine promptIn_op hs₁ fun a _ => ?_
  obtain ⟨g, hw⟩ := portWrite_quiet r (modifyWrite r [(f, v)] x) hs₁.quiet
  refine ⟨g, x, [_], congrArg afterWrite hw, fun hs₂ => ?_⟩
  rw [after_after] at hs₂ ⊢
  exact hrun _ x [_, _] hs₂ (carriesAll_modify v x)

/-- A full write to a GT register, and its SeqSync (R147, R150, R151). -/
theorem performs_wrSync {b : CalBuf} {r : Reg} {fs : List (RegField × Val)} {m : FieldMap} {u : Update}
    (hr : isGt r = true) (hu : writeUpdate r (fullWrite r (evalFields b fs)) = some u)
    (h : SameFields r (evalFields b fs) m) : Performs b ([.wr r fs] ++ seqSync) [.wr r m, .rd .gtStatus] := by
  intro n s rest post hb hs hrun
  subst hb
  refine promptIn_op hs fun a _ => ?_
  obtain ⟨g, hw, hg⟩ := portWrite_settles hs.quiet hr hu
  refine ⟨g, s.modbuf, [_], congrArg afterWrite hw, fun hs₁ => ?_⟩
  refine promptIn_poll hs₁ (fun a ha => pollHolds_of_settled hg ha) fun x hs₂ => ?_
  rw [after_after] at hs₂ ⊢
  exact hrun _ s.modbuf [_, _] hs₂ (carriesAll_append (carriesAll_write h) (cs := [_]) (us := [.read .gtStatus x]) rfl)

/-! ### SeqReset (R146) -/

/-- The gating block has carried out a tree reset: nothing is in flight, and where the gate is open SYNCBUSY and SWRST are
down. -/
def TreeReset (g : GtState) : Prop := BlockSettled g ∧ (g.gten = true → g.swrst = false)

/-- The SWRST write leaves a block that GTSYNC's step resets, or a closed gate that it does not reach (R254, R259). -/
theorem treeReset_recordUpdate (c : Config) {g : GtState} (hp : g.pending = none) :
    ∃ g', recordUpdate (some .reset) g = .ok g' ∧ TreeReset (gtSync c g') := by
  cases hopen : g.gten with
  | true => exact ⟨_, (if_neg (by simp [hp])).trans (if_pos hopen), ⟨rfl, fun _ => rfl⟩, fun _ => rfl⟩
  | false => exact ⟨g, by simp [recordUpdate, hp, hopen], by simp [gtSync, hp, TreeReset, BlockSettled, hopen]⟩

theorem portWrite_treeReset {s : State} {m : FieldMap} (hq : quiet s = true) (hm : writeUpdate .gtCtrl m = some .reset) :
    ∃ g, portWrite .gtCtrl m s = .ok (record (.write .gtCtrl m) (withBlock g s)) ∧
      (s.cfg.gating = true → TreeReset (gtSync s.cfg g)) := by
  unfold portWrite
  cases hc : s.cfg.gating with
  | false => exact ⟨s.gt, rfl, nofun⟩
  | true =>
    have hp : s.gt.pending = none := by simpa [quiet, hc] using hq
    obtain ⟨g, hw, hg⟩ := treeReset_recordUpdate s.cfg hp
    exact ⟨g, by simp [gtWrite, isGt, hm, hw, withBlock], fun _ => hg⟩

/-- After the reset, under a ready environment, the poll for SWRST = 0 holds at its first read (R146, R256). -/
theorem pollHolds_of_treeReset {s : State} {a : Answer} (hs : s.cfg.gating = true → TreeReset s.gt)
    (ha : envReady s.cfg a = true) : pollHolds [(.swrst, 0)] (readReg .gtCtrl a s) = true := by
  have hdraw : pollHolds [(.swrst, 0)] (readValue s.cfg .gtCtrl [] a) = true := by
    simp only [envReady, Bool.and_eq_true] at ha
    exact ha.1.1
  cases hc : s.cfg.gating with
  | false => simpa [readReg, hc] using hdraw
  | true =>
    cases hopen : s.gt.gten with
    | false => simpa [readReg, hc, gtKnown, hopen] using hdraw
    | true =>
      have hread : fieldOf (readReg .gtCtrl a s) .swrst = s.gt.swrst.toNat :=
        fieldOf_readReg_known a hc (if_pos hopen) (by decide) rfl (toNat_lt_fieldWidth _ rfl)
      simp [pollHolds, hread, (hs hc).2 hopen]

/-- A block with nothing in flight has no step of GTSYNC (R258). -/
theorem gtSync_of_quiet (c : Config) {g : GtState} (h : g.pending = none) : gtSync c g = g := by
  simp [gtSync, h]

/-- The SWRST write, then a read of GT.CTRL and one of GT.STATUS, both polls holding at once. -/
theorem performs_seqReset (b : CalBuf) :
    Performs b seqReset [.wr .gtCtrl [(.swrst, 1)], .rd .gtCtrl, .rd .gtStatus] := by
  intro n s rest post _ hs hrun
  refine promptIn_op hs fun a _ => ?_
  obtain ⟨g, hw, hg⟩ := portWrite_treeReset hs.quiet (m := fullWrite .gtCtrl [(.swrst, 1)]) rfl
  refine ⟨g, s.modbuf, [_], congrArg afterWrite hw, fun hs₁ => ?_⟩
  refine promptIn_poll hs₁ (fun a ha => pollHolds_of_treeReset hg ha) fun x hs₂ => ?_
  have hsettled : s.cfg.gating = true → BlockSettled (gtSync s.cfg (gtSync s.cfg g)) := fun hc => by
    rw [gtSync_of_quiet s.cfg (hg hc).1.1]
    exact (hg hc).1
  refine promptIn_poll hs₂ (fun a ha => pollHolds_of_settled hsettled ha) fun x' hs₃ => ?_
  rw [after_after, after_after] at hs₃ ⊢
  exact hrun _ s.modbuf [.read .gtStatus x', .read .gtCtrl x, _] hs₃
    (carriesAll_append (carriesAll_write rfl) (cs := [_]) (us := [.read .gtCtrl x, .read .gtStatus x']) rfl)

end Sys2Proof.Machine
end

section
/-! PROOFS of the family 41_bringup.md: the steps of the bring-ups, their micro-programs, and what these carry and record. -/

namespace Sys2Proof.Machine

/-! ### The steps of the bring-ups (41_bringup.md section 2) -/

theorem performs_seqGen (b : CalBuf) (c : Config) (g : GenId) (k : SourceKind) (idc : Bool) :
    Performs b (seqGen c g 1 k idc) (genCarries c g k idc.toNat) :=
  performs_append (ops := [_, _]) (cs := [_, _]) (performs_wrSync rfl rfl rfl) (performs_wrSync rfl rfl rfl)

theorem performs_seqChan (b : CalBuf) (ch : Nat) (g : GenId) :
    Performs b (seqChan ch g) [.wr .gtClkctrl [(.ident, ch), (.gen, g), (.clken, 1)], .rd .gtStatus] :=
  performs_wrSync rfl rfl rfl

/-- The oscillator's start before the tree reset, the multiplier's feed after it, both for the oscillator references only
(R146, R173, R175). -/
theorem performs_start (b : CalBuf) (c : Config) (v : Variant) :
    Performs b (oscStep c v ++ seqReset ++ feedStep c v) (startCarries c v) := by
  have hfeed : ∀ k, Performs b (seqGen c 1 1 k false ++ seqChan c.multRefCh 1) _ := fun k =>
    performs_append (performs_seqGen b c 1 k false) (performs_seqChan b c.multRefCh 1)
  have hreset : ∀ {ops cs}, Performs b ops cs → Performs b (seqReset ++ ops) _ := fun h =>
    performs_append (performs_seqReset b) h
  cases v with
  | int32k =>
    exact performs_cons (performs_wr rfl) (performs_cons (performs_pollOsc b (by simp)) (hreset (hfeed .int32k)))
  | ext32k =>
    exact performs_cons (performs_wr rfl) (performs_cons (performs_pollOsc b (by simp)) (hreset (hfeed .ext32k)))
  | usb | openLoop => exact performs_seqReset b

/-- The multiplier's release and the write of what was calibrated (R176). -/
def valStep : List MicroOp :=
  .wr .oscMultCtrl [(.ondemand, .lit 0)] :: (waitReady ++ [.wr .oscMultVal [(.coarse, .calCoarse), (.fine, .calFine)]])

/-- What `valStep` carries, `b` being the calibration. -/
def valCarries (b : CalBuf) : List Carries :=
  [.wr .oscMultCtrl [], .rd .oscStatus, .wr .oscMultVal [(.coarse, b.coarse), (.fine, b.fine)]]

theorem performs_waitReady (b : CalBuf) : Performs b waitReady [.rd .oscStatus] := performs_pollOsc b (by simp)

theorem performs_valStep (b : CalBuf) : Performs b valStep (valCarries b) :=
  performs_cons (performs_wr rfl) (performs_append (performs_waitReady b) (performs_wr rfl))

/-- The ratio write, which OPEN may leave out (R177, R182). -/
theorem performs_multMulWrite (b : CalBuf) (c : Config) (v : Variant) :
    Performs b (multMulWrite c v) (ratioCarries c b v) := by
  cases v with
  | int32k | ext32k | usb => exact performs_wr rfl
  | openLoop =>
    simp only [multMulWrite, ratioCarries]
    split
    · exact performs_wr rfl
    · exact performs_nil b

/-- The multiplier's mode flags, its enable, and the waits (R176, R178, R179). -/
def modeStep (v : Variant) : List MicroOp :=
  [.wr .oscMultCtrl (modeFlags v)] ++ waitReady ++ seqModify .oscMultCtrl .enable 1 ++ lockPoll v ++ waitReady

theorem performs_modeStep (b : CalBuf) (v : Variant) : Performs b (modeStep v) (modeCarries v) := by
  have hready := performs_waitReady b
  have henable : ∀ {ops cs}, Performs b ops cs → Performs b (waitReady ++ seqModify .oscMultCtrl .enable 1 ++ ops) _ :=
    fun h => performs_append (performs_append hready (performs_modify b .oscMultCtrl .enable 1)) h
  have hlock : Performs b (lockPoll .ext32k) [.rd .oscStatus] := performs_pollOsc b (by simp)
  cases v with
  | ext32k => exact performs_cons (performs_wr rfl) (henable (performs_append hlock hready))
  | int32k | usb | openLoop => exact performs_cons (performs_wr rfl) (henable hready)

theorem performs_prescStep (b : CalBuf) (c : Config) : Performs b (prescStep c) (prescCarries c) :=
  performs_append (performs_modify b .oscRc8m .presc c.prescDiv1) <|
    performs_cons (performs_wr rfl) (performs_cons (performs_wr rfl) (performs_cons (performs_wr rfl) (performs_wr rfl)))

/-- The record step makes no transaction (R186). -/
theorem performs_recordStep (b : CalBuf) (c : Config) (v : Variant) : Performs b (recordStep c v) [] := by
  have href : Performs b (refRecord v) [] := by
    cases v with
    | int32k | ext32k => exact performs_setft b 1 32768
    | usb | openLoop => exact performs_nil b
  exact performs_append (performs_append (performs_setft b 0 48000000) href) (performs_setuse b c.multRefCh)

/-! ### The micro-programs, either side of BRINGUP48's calibration read -/

/-- BRINGUP48 up to its calibration read (R185). -/
def beforeCal (c : Config) (v : Variant) : List MicroOp :=
  flashStep c ++ (ungateStep ++ (oscStep c v ++ seqReset ++ feedStep c v))

/-- BRINGUP48 from its calibration read on, up to its record step (R185). -/
def afterCal (c : Config) (v : Variant) : List MicroOp :=
  valStep ++ multMulWrite c v ++ modeStep v ++ switchStep c ++ prescStep c

theorem prog48_eq (c : Config) (v : Variant) :
    prog48 c v = beforeCal c v ++ .cal :: (afterCal c v ++ (recordStep c v ++ bringupDone)) := by
  simp [prog48, beforeCal, multStep, afterCal, valStep, modeStep]

/-- What the run carries up to the calibration read. -/
def beforeCalCarries (c : Config) (v : Variant) : List Carries :=
  .modify .flashCtrl .rws c.flashWs48m :: .modify .busMask .gt 1 :: startCarries c v

/-- What the run carries after it read the calibration `b`. -/
def afterCalCarries (c : Config) (b : CalBuf) (v : Variant) : List Carries :=
  valCarries b ++ ratioCarries c b v ++ modeCarries v ++ genCarries c 0 .mult48m 1 ++ prescCarries c

theorem bringup48Carries_eq (c : Config) (v : Variant) (b : CalBuf) :
    bringup48Carries c v b = beforeCalCarries c v ++ ([.cal b] ++ afterCalCarries c b v) := by
  simp [bringup48Carries, beforeCalCarries, afterCalCarries, valCarries]

theorem performs_beforeCal (b : CalBuf) (c : Config) (v : Variant) : Performs b (beforeCal c v) (beforeCalCarries c v) :=
  performs_append (cs := [_]) (performs_modify b _ _ _)
    (performs_append (cs := [_]) (performs_modify b _ _ _) (performs_start b c v))

theorem performs_afterCal (b : CalBuf) (c : Config) (v : Variant) : Performs b (afterCal c v) (afterCalCarries c b v) := by
  have hmult := performs_append (performs_append (performs_valStep b) (performs_multMulWrite b c v)) (performs_modeStep b v)
  exact performs_append (performs_append hmult (performs_seqGen b c 0 .mult48m true)) (performs_prescStep b c)

/-- BRINGUP8 without its record and its response (R191). -/
def work8 (c : Config) : List MicroOp :=
  ungateStep ++ seqReset ++ seqGen c 0 1 .rc8m false ++ prescStep c

theorem performs_work8 (b : CalBuf) (c : Config) : Performs b (work8 c) (bringup8Carries c) := by
  have hstart : Performs b (ungateStep ++ seqReset)
      [.modify .busMask .gt 1, .wr .gtCtrl [(.swrst, 1)], .rd .gtCtrl, .rd .gtStatus] :=
    performs_append (performs_modify b .busMask .gt 1) (performs_seqReset b)
  exact performs_append (performs_append hstart (performs_seqGen b c 0 .rc8m false)) (performs_prescStep b c)

/-! ### What the bring-ups record -/

theorem foldl_recordOne_of_spares {ops : List MicroOp} (h : ops.all sparesTracker = true) (x : Vector Word 8 × BitVec 64) :
    ops.foldl recordOne x = x := by
  induction ops with
  | nil => rfl
  | cons op ops ih =>
    obtain ⟨hop, hops⟩ := (by simpa using h : sparesTracker op = true ∧ ∀ o ∈ ops, sparesTracker o = true)
    rw [List.foldl_cons, recordOne_of_spares hop]
    exact ih (List.all_eq_true.2 hops)

theorem beforeCal_spares (c : Config) (v : Variant) : (beforeCal c v).all sparesTracker = true := by cases v <;> rfl

theorem afterCal_spares (c : Config) (v : Variant) : (afterCal c v).all sparesTracker = true := by
  unfold afterCal
  rcases multMulWrite_cases c v with h | ⟨fs, h⟩ <;> rw [h] <;> cases v <;> rfl

/-! ### The calibration read and the response -/

/-- The state after a CAL that read `x`, and GTSYNC's step (R81). -/
def calibrated (x : CalBuf) (s : State) : State :=
  { after [.cal] (gtSync s.cfg s.gt) s.modbuf [.cal x] s with calbuf := x }

theorem promptIn_cal {n : Nat} {s : State} {rest : List MicroOp} {post : State → Prop} (hs : Before (.cal :: rest) s)
    (h : ∀ x, calFits s.cfg x = true → Before rest (calibrated x s) → PromptIn n (calibrated x s) post) :
    PromptIn (n + 1) s post := by
  refine promptIn_micro hs.busy hs.op fun a _ => ⟨_, rfl, ?_⟩
  obtain ⟨hb, hq, hrest⟩ := Before.after (ops := [.cal]) hs s.modbuf [] (quiet_of_gtSync (g := s.gt) rfl)
  exact h _ (calFits_calDraw s.cfg a) ⟨hb, hq, hrest⟩

theorem promptIn_resp {s : State} {p : Resp} {post : State → Prop} (hs : Before [.resp p] s)
    (h : post (settle (respond p s))) : PromptIn 1 s post :=
  promptIn_micro hs.busy hs.op fun _ _ => ⟨_, rfl, promptIn_zero h⟩

theorem exec_bringup48_ok {v : Variant} {s : State} (hp : s.phase = .powerOn) :
    exec (.bringup48 v) s = .next (issue (prog48 s.cfg v) s) :=
  congrArg (fun p => Host.Outcome.next (issue p s)) (if_pos hp)

theorem exec_bringup8_ok {s : State} (hp : s.phase = .powerOn) : exec .bringup8 s = .next (issue (prog8 s.cfg) s) :=
  congrArg (fun p => Host.Outcome.next (issue p s)) (if_pos hp)

/-! ### The runs -/

theorem completesIn_mono {n : Nat} {i : Instr} {s : State} {post post' : State → Prop} (h : completesIn n i s post)
    (hpost : ∀ u, post u → post' u) : completesIn n i s post' := by
  intro as hn henv
  obtain ⟨t, u, he, hrun, hb, hv, hw, hu⟩ := h as hn henv
  exact ⟨t, u, he, hrun, hb, hv, hw, hpost u hu⟩

/-- The state after `ops` that spare the tracker holds the tracker as it was. -/
theorem tracker_after_of_spares {ops : List MicroOp} (h : ops.all sparesTracker = true) (g : GtState) (m : FieldMap)
    (new : List Txn) (s : State) :
    ((after ops g m new s).ft, (after ops g m new s).usage) = (s.ft, s.usage) :=
  foldl_recordOne_of_spares h (s.ft, s.usage)

/-- What a completed BRINGUP48 leaves (R185, R186). -/
structure BroughtUp48 (v : Variant) (s u : State) : Prop where
  tracker : (u.ft, u.usage) = (recordStep s.cfg v).foldl recordOne (s.ft, s.usage)
  phase : u.phase = .configured
  rspLo : u.rspLo = 0
  rspHi : u.rspHi = 0
  calbuf : calFits s.cfg u.calbuf = true
  trace : ∃ new, u.trace = new ++ s.trace ∧ carriesAll (bringup48Carries s.cfg v u.calbuf) new.reverse = true

/-- BRINGUP48 runs to its calibration read, from there to its record step, and records. -/
theorem completesIn_bringup48 {v : Variant} {s : State} (hp : s.phase = .powerOn) (hq : quiet s = true) :
    completesIn (prog48 s.cfg v).length (.bringup48 v) s (BroughtUp48 v s) := by
  have hlen : (prog48 s.cfg v).length =
      1 + (recordStep s.cfg v).length + (afterCal s.cfg v).length + 1 + (beforeCal s.cfg v).length := by
    simp [prog48_eq, bringupDone]
    omega
  rw [hlen]
  refine completesIn_of_promptIn (exec_bringup48_ok hp) ?_
  refine performs_beforeCal s.calbuf s.cfg v _ _ _ _ rfl ⟨rfl, hq, prog48_eq s.cfg v⟩ fun g₁ m₁ new₁ hs₁ hnew₁ => ?_
  refine promptIn_cal hs₁ fun x hx hs₂ => ?_
  refine performs_afterCal x s.cfg v _ _ _ _ rfl hs₂ fun g₂ m₂ new₂ hs₃ hnew₂ => ?_
  refine performs_recordStep x s.cfg v _ _ _ _ rfl hs₃ fun g₃ m₃ new₃ hs₄ hnew₃ => ?_
  have htracker := (tracker_after_of_spares (afterCal_spares s.cfg v) g₂ m₂ new₂ _).trans
    (tracker_after_of_spares (beforeCal_spares s.cfg v) g₁ m₁ new₁ (issue (prog48 s.cfg v) s))
  refine promptIn_resp hs₄ ⟨rfl, rfl, congrArg ((recordStep s.cfg v).foldl recordOne) htracker, rfl, rfl, rfl, hx,
    new₃ ++ (new₂ ++ ([.cal x] ++ new₁)), ?_, ?_⟩
  · show new₃ ++ (new₂ ++ ([.cal x] ++ (new₁ ++ s.trace))) = _
    simp
  · have hcal : carriesAll [.cal x] [.cal x] = true := by simp [carriesAll]
    have hall := carriesAll_append hnew₁ (carriesAll_append hcal (carriesAll_append hnew₂ hnew₃))
    rw [List.append_nil, ← bringup48Carries_eq] at hall
    show carriesAll (bringup48Carries s.cfg v x) _ = true
    simpa using hall

/-- How many transactions a history that carries `cs`, the newest first, holds, and how many calibration reads. -/
theorem counts_of_carriesAll_reverse {cs : List Carries} {new : List Txn} {isCal : Txn → Bool}
    (hcal : ∀ x, isCal x = isCalTxn x) (h : carriesAll cs new.reverse = true) :
    new.length = txnCount cs ∧ new.countP isCal = cs.countP isCalCarry := by
  rw [funext hcal]
  simpa using counts_of_carriesAll h

/-- OPEN_LOOP_STAGE_MUL decides on OPEN's ratio write, one micro-operation (R182). -/
theorem length_prog48_openLoop (c : Config) :
    (prog48 c .openLoop).length = if c.openLoopStageMul then 30 else 29 := by
  simp only [prog48, multStep, multMulWrite, List.length_append]
  split <;> rfl

/-- OPEN_LOOP_STAGE_MUL decides on OPEN's ratio write, one transaction (R187). -/
theorem counts_bringup48Carries_openLoop (c : Config) (b : CalBuf) :
    txnCount (bringup48Carries c .openLoop b) = (if c.openLoopStageMul then 26 else 25) + 1 ∧
      (bringup48Carries c .openLoop b).countP isCalCarry = 1 := by
  simp only [bringup48Carries, ratioCarries]
  split <;> exact ⟨rfl, rfl⟩

/-! ### The order guarantees (R188) -/

/-- Operations that `q` does not mark may stand before a list that keeps the order. -/
theorem comesBefore_append {p q : MicroOp → Bool} {xs ys : List MicroOp} (hq : xs.all (fun op => !q op) = true)
    (h : comesBefore p q ys = true) : comesBefore p q (xs ++ ys) = true := by
  induction xs with
  | nil => exact h
  | cons x xs ih =>
    rw [List.all_cons, Bool.and_eq_true] at hq
    rw [List.cons_append, comesBefore, hq.1, ih hq.2, Bool.or_true, Bool.and_true]

/-- BRINGUP48 up to the multiplier's mode flags (R185). -/
def beforeMode (c : Config) (v : Variant) : List MicroOp :=
  beforeCal c v ++ (.cal :: valStep) ++ multMulWrite c v

/-- BRINGUP48 from the multiplier's mode flags on (R185). -/
def fromMode (c : Config) (v : Variant) : List MicroOp :=
  modeStep v ++ switchStep c ++ prescStep c ++ recordStep c v ++ bringupDone

theorem prog48_eq_mode (c : Config) (v : Variant) : prog48 c v = beforeMode c v ++ fromMode c v := by
  simp [prog48_eq, beforeMode, fromMode, afterCal]

/-- A mark that the ratio write lacks, and everything before it, is on nothing up to the mode flags. -/
theorem beforeMode_lacks {q : MicroOp → Bool} {c : Config} {v : Variant}
    (hpre : (beforeCal c v ++ .cal :: valStep).all (fun op => !q op) = true) (hq : ∀ fs, q (.wr .oscMultMul fs) = false) :
    (beforeMode c v).all (fun op => !q op) = true := by
  have hratio : (multMulWrite c v).all (fun op => !q op) = true := by
    rcases multMulWrite_cases c v with h | ⟨fs, h⟩ <;> simp [h, hq]
  rw [beforeMode, List.all_append, hpre, hratio, Bool.and_true]

theorem beforeMode_sourcesGen (c : Config) (v : Variant) :
    (beforeMode c v).all (fun op => !sourcesGen 0 op) = true :=
  beforeMode_lacks (by cases v <;> rfl) fun _ => rfl

theorem beforeMode_setsEnable (c : Config) (v : Variant) :
    (beforeMode c v).all (fun op => !setsBit .oscMultCtrl .enable op) = true :=
  beforeMode_lacks (by cases v <;> rfl) fun _ => rfl

/-- The prescalers are written after the mode flags only (R184). -/
theorem beforeMode_writesReg (c : Config) (v : Variant) {r : Reg}
    (hr : r ∈ [Reg.oscRc8m, .busCpudiv, .busAdiv, .busBdiv, .busCdiv]) :
    (beforeMode c v).all (fun op => !writesReg r op) = true := by
  simp only [List.mem_cons, List.not_mem_nil, or_false] at hr
  rcases hr with rfl | rfl | rfl | rfl | rfl <;> exact beforeMode_lacks (by cases v <;> rfl) fun _ => rfl

end Sys2Proof.Machine
end

section
/-! PROOFS: the obligations of the family 41_bringup.md. -/

namespace Sys2Proof.Machine

/-! ### The bring-ups' results (41_bringup.md sections 3 and 5) -/

/-- Settles O32: the run is `completesIn_bringup48`; the numbers are those of its program and of what it carries. -/
theorem bringup48Completes : Obligations.Bringup48Completes := by
  intro v s hp hq steps txns
  have hsteps : (prog48 s.cfg v).length = steps := by
    cases v with
    | int32k | ext32k | usb => rfl
    | openLoop => exact length_prog48_openLoop s.cfg
  rw [← hsteps]
  refine completesIn_mono (completesIn_bringup48 hp hq) fun u hu => ?_
  obtain ⟨htracker, hphase, hlo, hhi, hfits, new, htrace, hcarries⟩ := hu
  have hcounts : txnCount (bringup48Carries s.cfg v u.calbuf) = txns + 1 ∧
      (bringup48Carries s.cfg v u.calbuf).countP isCalCarry = 1 := by
    cases v with
    | int32k | ext32k | usb => exact ⟨rfl, rfl⟩
    | openLoop => exact counts_bringup48Carries_openLoop s.cfg u.calbuf
  refine ⟨?_, ?_, hphase, hlo, hhi, hfits, new, htrace, hcarries, ?_⟩
  · cases v with
    | int32k | ext32k | usb | openLoop => exact congrArg Prod.fst htracker
  · cases v with
    | int32k | ext32k | usb | openLoop => exact congrArg Prod.snd htracker
  · exact (counts_of_carriesAll_reverse (fun x => by cases x <;> rfl) hcarries).imp (·.trans hcounts.1) (·.trans hcounts.2)

/-- Settles O33: BRINGUP8 is one list that performs, its record at its end, and its response. -/
theorem bringup8Completes : Obligations.Bringup8Completes := by
  intro s hp hq
  refine completesIn_of_promptIn (exec_bringup8_ok hp) ?_
  have hwork := performs_append (performs_work8 s.calbuf s.cfg) (performs_setft s.calbuf 0 8000000)
  refine hwork 1 _ _ _ rfl ⟨rfl, hq, rfl⟩ fun g m new hs hnew => ?_
  rw [List.append_nil] at hnew
  exact promptIn_resp hs ⟨rfl, rfl, rfl, rfl, rfl, rfl, rfl, rfl, new, rfl, hnew,
    counts_of_carriesAll_reverse (fun x => by cases x <;> rfl) hnew⟩

/-! ### The order guarantees (41_bringup.md section 3) -/

/-- Settles O35. What must come first stands in the flash, ungate, oscillator or feed step, or, for the orders about the
core-clock switch and the prescalers, from the multiplier's mode flags on. -/
theorem bringup48OrderGuarantees : Obligations.Bringup48OrderGuarantees := by
  intro c v
  refine ⟨rfl, rfl, ?_, ?_, ?_, ?_, ?_, ?_⟩
  · rintro rfl
    rfl
  · rintro rfl
    rfl
  · intro hv r hr
    simp only [List.mem_cons, List.not_mem_nil, or_false] at hr
    rcases hv with rfl | rfl <;> rcases hr with rfl | rfl | rfl <;> exact ⟨rfl, rfl⟩
  · rw [prog48_eq_mode]
    exact comesBefore_append (beforeMode_sourcesGen c v) rfl
  · rw [prog48_eq_mode, List.dropWhile_append_of_pos (List.all_eq_true.1 (beforeMode_setsEnable c v))]
    refine ⟨?_, ?_⟩
    · cases v <;> rfl
    · rintro rfl
      rfl
  · intro r hr
    rw [prog48_eq_mode]
    refine comesBefore_append (beforeMode_writesReg c v hr) ?_
    simp only [List.mem_cons, List.not_mem_nil, or_false] at hr
    rcases hr with rfl | rfl | rfl | rfl | rfl <;> cases v <;> rfl

end Sys2Proof.Machine
end

section
/-! PROOFS of the family 42_allocation.md: the checks of LOOKUP, CLAIM and ENABLE, and the answers they end in.

`answersAtOnce_of_commandProg` gives the answer of a command whose micro-program is a lone RESP; the `progLookup_`,
`progClaim_` and `progEnable_` lemmas say which RESP that is, one for each check that ends the command. -/

namespace Sys2Proof.Machine

/-! ### Answers -/

/-- A command in the phase that admits it, with a lone RESP for its micro-program, answers what that RESP says. -/
theorem answersAtOnce_of_commandProg {i : Instr} {s : State} {p : Resp} {lo hi : Word} {ph : Phase}
    (hp : s.phase = admittedIn i) (h : commandProg i s = [.resp p]) (hlo : respLo p = lo) (hhi : p.freq = hi)
    (hph : p.phase.getD (admittedIn i) = ph) : answersAtOnce i s lo hi ph := by
  rw [← hlo, ← hhi, ← hph, ← hp]
  exact answersAtOnce_of_resp (by rw [exec_eq, inPhase, if_pos hp, h])

/-! ### LOOKUP's check (R210) -/

theorem progLookup_configured {g : GenId} {s : State} (hf : freqOf s g ≠ 0) :
    progLookup g s = [.resp (handleResp g (freqOf s g))] := if_neg hf

theorem progLookup_unconfigured {g : GenId} {s : State} (hz : freqOf s g = 0) :
    progLookup g s = noneProg .genNotConfigured := if_pos hz

/-! ### CLAIM's checks, in the order it makes them (R212, R214 to R217) -/

section Claim

variable {g : GenId} {idc : Bool} {k : SourceKind} {d : Nat} {s : State}

theorem progClaim_configured (hf : freqOf s g ≠ 0) : progClaim g idc k d s = noneProg .genAlreadyConfigured := if_pos hf

theorem progClaim_illegalDivider (hz : freqOf s g = 0) (hd : legalDivider g d = false) :
    progClaim g idc k d s = fatalProg .dividerOutOfRange := by
  rw [progClaim, if_neg (not_not.2 hz), hd]
  rfl

theorem progClaim_unimplementedSource (hz : freqOf s g = 0) (hd : legalDivider g d = true)
    (hk : sourceFreq s.ft k = none) : progClaim g idc k d s = fatalProg .unimplementedSource := by
  rw [progClaim, if_neg (not_not.2 hz), hd, hk]
  rfl

theorem progClaim_zeroFrequency {f : Nat} (hz : freqOf s g = 0) (hd : legalDivider g d = true)
    (hk : sourceFreq s.ft k = some f) (hq : f / d = 0) : progClaim g idc k d s = fatalProg .zeroFrequency := by
  rw [progClaim, if_neg (not_not.2 hz), hd, hk]
  exact if_pos hq

end Claim

/-! ### ENABLE's checks, in the order it makes them (R222 to R224) -/

section Enable

variable {ch : Nat} {g : GenId} {s : State}

theorem progEnable_missingChannel (hc : s.cfg.numChannels ≤ ch) :
    progEnable ch g s = illegalProg .channelOutOfRange := if_pos hc

theorem progEnable_invalidHandle (hc : ch < s.cfg.numChannels) (hz : freqOf s g = 0) :
    progEnable ch g s = illegalProg .invalidHandle := by
  rw [progEnable, if_neg (Nat.not_le.2 hc), if_pos hz]

theorem progEnable_usedChannel (hc : ch < s.cfg.numChannels) (hf : freqOf s g ≠ 0) (hu : channelUsed s ch = true) :
    progEnable ch g s = noneProg .channelAlreadyUsed := by
  rw [progEnable, if_neg (Nat.not_le.2 hc), if_neg hf, if_pos hu]

end Enable

/-! ### Dividers and sources (R149, R213) -/

theorem legalDivider_iff {g : GenId} {d : Nat} : legalDivider g d = true ↔ 1 ≤ d ∧ d ≤ maxDiv g := by
  rw [legalDivider, Bool.and_eq_true, decide_eq_true_eq, decide_eq_true_eq]

/-- Only GEN1 has more than 8 divider bits (R8). -/
theorem maxDiv_le_of_ne_one : ∀ g : GenId, g ≠ 1 → maxDiv g ≤ 255 := by decide

/-- A legal divider passes 255 at GEN1 alone. -/
theorem eq_one_of_legalDivider {g : GenId} {d : Nat} (h : legalDivider g d = true) (hd : 255 < d) : g = 1 := by
  by_contra hg
  have hle := (legalDivider_iff.1 h).2.trans (maxDiv_le_of_ne_one g hg)
  omega

theorem sourceFreq_eq_none {ft : Vector Word 8} {k : SourceKind} (h : k = .rawin ∨ k = .xtal) : sourceFreq ft k = none := by
  rcases h with rfl | rfl <;> rfl

end Sys2Proof.Machine
end

section
/-! PROOFS: the obligations of the family 42_allocation.md. -/

namespace Sys2Proof.Machine

/-! ### Dividers and sources (42_allocation.md section 2) -/

/-- Settles O22: the quotient is 0 when the divider exceeds the source's frequency. For a 32 kHz source that takes a divider
above 32768, which is legal for GEN1 alone; the three fast sources exceed every legal divider. -/
theorem zeroFrequencyArisesInExactlyTwoCases : Obligations.ZeroFrequencyArisesInExactlyTwoCases := by
  intro g k d f s hd hf
  have hpos : 0 < d := (legalDivider_iff.1 hd).1
  have hlt : d < 65536 := lt_of_legalDivider hd
  have hone : 32768 < d → g = 1 := fun h => eq_one_of_legalDivider hd (by omega)
  rw [Nat.div_eq_zero_iff_lt hpos]
  cases k with
  | gen1 =>
    obtain rfl := Option.some.inj hf
    simp
  | int32k | ext32k =>
    obtain rfl := Option.some.inj hf
    simpa using hone
  | rc8m | mult48m | pll96m =>
    obtain rfl := Option.some.inj hf
    simp only [reduceCtorEq, false_and, and_false, or_false, iff_false]
    omega
  | rawin | xtal => exact nomatch hf

/-- Settles O23: the maxima generator by generator, the frequencies source by source. -/
theorem dividerMaximaAndSourceFrequencies : Obligations.DividerMaximaAndSourceFrequencies := by
  refine ⟨⟨rfl, rfl, fun g h1 h2 => ?_⟩, fun ft => ⟨rfl, rfl, rfl, rfl, rfl, rfl, rfl, rfl⟩⟩
  rw [maxDiv, if_neg h1, if_neg h2]

/-! ### The commands that answer at once (42_allocation.md sections 1 to 3) -/

/-- Settles O19, by LOOKUP's one check. -/
theorem lookupAnswersTheHandle : Obligations.LookupAnswersTheHandle := by
  intro g s hp
  refine ⟨fun hf => ?_, fun hz => ?_⟩
  · exact answersAtOnce_of_commandProg hp (progLookup_configured hf) (respLo_handleResp g _) rfl rfl
  · exact answersAtOnce_of_commandProg hp (progLookup_unconfigured hz) rfl rfl rfl

/-- Settles O20, by CLAIM's first check. -/
theorem claimOfAConfiguredGeneratorAnswersNone : Obligations.ClaimOfAConfiguredGeneratorAnswersNone :=
  fun _ _ _ _ _ hp hf => answersAtOnce_of_commandProg hp (progClaim_configured hf) rfl rfl rfl

/-- Settles O21, by CLAIM's checks after the first. -/
theorem claimFatalCases : Obligations.ClaimFatalCases := by
  intro g idc k d s hp hz legal
  have hlegal : legalDivider g d = true ↔ legal := legalDivider_iff
  refine ⟨fun hd => ?_, fun hd hk => ?_, fun hd f hk hq => ?_⟩
  · have hill : legalDivider g d = false := Bool.eq_false_iff.2 (mt hlegal.1 hd)
    exact answersAtOnce_of_commandProg hp (progClaim_illegalDivider hz hill) rfl rfl rfl
  · have hnone : sourceFreq s.ft k = none := sourceFreq_eq_none hk
    exact answersAtOnce_of_commandProg hp (progClaim_unimplementedSource hz (hlegal.2 hd) hnone) rfl rfl rfl
  · exact answersAtOnce_of_commandProg hp (progClaim_zeroFrequency hz (hlegal.2 hd) hk hq) rfl rfl rfl

/-- Settles O26, by ENABLE's three checks. -/
theorem enableRefusesInOrder : Obligations.EnableRefusesInOrder := by
  intro ch g s hp
  refine ⟨fun hc => ?_, fun hc hz => ?_, fun hc hf hu => ?_⟩
  · exact answersAtOnce_of_commandProg hp (progEnable_missingChannel hc) rfl rfl rfl
  · exact answersAtOnce_of_commandProg hp (progEnable_invalidHandle hc hz) rfl rfl rfl
  · exact answersAtOnce_of_commandProg hp (progEnable_usedChannel hc hf hu) rfl rfl rfl

end Sys2Proof.Machine
end

section
/-! PROOFS of the family 43_gating_block.md: what each write makes of the gating block, and what GTSYNC does with it. -/

namespace Sys2Proof.Machine

/-! ### Writes that meet the synchronizer (R253 to R257) -/

/-- The block once the update `u` is recorded (R253, R255). -/
def recording (u : Update) (g : GtState) : GtState :=
  { g with pending := some u, syncbusy := true, swrst := decide (u = .reset) }

theorem recordUpdate_pending {g : GtState} (hp : g.pending ≠ none) (u : Option Update) :
    recordUpdate u g = .error .gtWriteDuringSync :=
  if_pos (Option.isSome_iff_ne_none.2 hp)

theorem recordUpdate_gated {g : GtState} (hp : g.pending = none) (hgated : g.gten = false) (u : Option Update) :
    recordUpdate u g = .ok g := by
  simp [recordUpdate, hp, hgated]

theorem recordUpdate_none {g : GtState} (hp : g.pending = none) : recordUpdate none g = .ok g := by
  simp [recordUpdate, hp]

theorem recordUpdate_some {g : GtState} (hp : g.pending = none) (hopen : g.gten = true) (u : Update) :
    recordUpdate (some u) g = .ok (recording u g) := by
  simp [recordUpdate, recording, hp, hopen]

theorem gtWrite_of_isGt {r : Reg} (hr : isGt r = true) (m : FieldMap) (g : GtState) :
    gtWrite r m g = recordUpdate (writeUpdate r m) g :=
  if_pos hr

theorem gtWrite8_of_isGt {r : Reg} (hr : isGt r = true) (v : Nat) (free : Option Update) (gate : Bool) (g : GtState) :
    gtWrite8 r v free gate g = recordUpdate (writeUpdate8 r v free) g :=
  if_pos hr

/-! ### GTSYNC (R258 to R264) -/

/-- The block with nothing in flight and its flags down. -/
def cleared (g : GtState) : GtState := { g with pending := none, syncbusy := false, swrst := false }

theorem cleared_of_quiet {g : GtState} (h : g.pending = none) :
    cleared g = { g with swrst := false, syncbusy := false } := by
  rw [cleared, ← h]

theorem gtSync_some (c : Config) {g : GtState} {u : Update} (h : g.pending = some u) :
    gtSync c g = cleared (applyUpdate c u g) := by
  rw [gtSync, h]
  rfl

theorem gtSync_pending (c : Config) (g : GtState) : (gtSync c g).pending = none := by
  cases h : g.pending with
  | none => rw [gtSync_of_quiet c h, h]
  | some u => rw [gtSync_some c h, cleared]

theorem genOfNat_of_ge {i : Nat} (h : 8 ≤ i) : genOfNat i = none := dif_neg (by omega)

theorem applyUpdate_div (c : Config) (g : GtState) (i : GenId) (v : Nat) :
    applyUpdate c (.div i v) g = updateGen g i fun b => { b with div := truncateDiv i v } := by
  simp [applyUpdate]

theorem applyUpdate_genctrl (c : Config) (g : GtState) (i : GenId) (b : GenCtl) :
    applyUpdate c (.genctrl i b) g = { updateGen g i fun old => { old with ctl := b } with selGen := i } := by
  simp [applyUpdate]

theorem applyUpdate_selgen (c : Config) (g : GtState) (v : Nat) :
    applyUpdate c (.selgen v) g = { g with selGen := if h : v % 16 < 8 then ⟨v % 16, h⟩ else g.selGen } := by
  by_cases h : v % 16 < 8 <;> simp [applyUpdate, genOfNat, h]

theorem applyUpdate_selch (c : Config) (g : GtState) (v : Nat) :
    applyUpdate c (.selch v) g = { g with selCh := if v % 64 < c.numChannels then v % 64 else g.selCh } := by
  simp only [applyUpdate]
  split <;> rfl

/-- The flags of the update in flight are no part of what applying it reads, and GTSYNC clears them. -/
theorem gtSync_recording (c : Config) (u : Update) (g : GtState) :
    gtSync c (recording u g) = cleared (applyUpdate c u g) := by
  rw [gtSync_some c rfl]
  cases u with
  | reset => rfl
  | div i v =>
    simp only [applyUpdate]
    cases genOfNat i <;> rfl
  | genctrl i b =>
    simp only [applyUpdate]
    cases genOfNat i <;> rfl
  | selgen v => simp only [applyUpdate_selgen]; rfl
  | chan ch k e =>
    simp only [applyUpdate]
    split <;> rfl
  | selch v => simp only [applyUpdate_selch]; rfl

theorem truncateDiv_of_legal {g : GenId} {d : Nat} (h : legalDivider g d = true) : truncateDiv g d = d := by
  have hmax : ∀ g : GenId, maxDiv g < 2 ^ divWidth g := by decide
  exact Nat.mod_eq_of_lt (lt_of_le_of_lt (legalDivider_iff.1 h).2 (hmax g))

end Sys2Proof.Machine
end

section
/-! PROOFS: the small obligations of the family 43_gating_block.md. -/

namespace Sys2Proof.Machine

/-- Settles O45: each GT write is one of `recordUpdate`, of the update that the table R255 gives it. -/
theorem gtWriteMeetsTheSynchronizer : Obligations.GtWriteMeetsTheSynchronizer := by
  intro m v free gate g
  refine ⟨fun r hr hp => ?_, fun r hr hp hgated => ?_, fun hp hopen => ?_⟩
  · rw [gtWrite_of_isGt hr, gtWrite8_of_isGt hr]
    exact ⟨recordUpdate_pending hp _, recordUpdate_pending hp _⟩
  · rw [gtWrite_of_isGt hr, gtWrite8_of_isGt hr]
    exact ⟨recordUpdate_gated hp hgated _, recordUpdate_gated hp hgated _⟩
  · have hrec := recordUpdate_some hp hopen
    have hnone := recordUpdate_none hp
    refine ⟨fun hm => ?_, fun hm => ?_, hnone, hnone, hrec _, hrec _, hrec _, hrec _, hrec _⟩
    · rw [gtWrite_of_isGt rfl, writeUpdate, if_neg hm]
      exact hrec .reset
    · rw [gtWrite_of_isGt rfl, writeUpdate, if_pos hm]
      exact hnone

/-- Settles O46: GTSYNC's step is `gtSync_some`, and each kind of update is applied by its own rule. -/
theorem gtSyncAppliesTheUpdate : Obligations.GtSyncAppliesTheUpdate := by
  intro s done
  have hsync : ∀ {u g}, applyUpdate s.cfg u s.gt = g → s.gt.pending = some u → stepWith .gtsync s = .next (done g) :=
    fun happly hp => by rw [stepWith_eq, runTurn_gtsync, gtSync_some s.cfg hp, happly]; rfl
  refine ⟨hsync rfl, fun i v => hsync ?_, fun i v hi => hsync ?_, fun i b => hsync (applyUpdate_genctrl ..),
    fun i b hi => hsync ?_, fun v => hsync (applyUpdate_selgen ..), fun c k e => hsync rfl,
    fun v => hsync (applyUpdate_selch ..)⟩
  · have hwidth : ∀ i : GenId, 2 ^ divWidth i = if i = 1 then 2 ^ 16 else if i = 2 then 2 ^ 5 else 2 ^ 8 := by decide
    rw [applyUpdate_div, truncateDiv, hwidth]
    rfl
  · rw [applyUpdate, genOfNat_of_ge hi]
  · rw [applyUpdate, genOfNat_of_ge hi]

/-- Settles O16: chip power-on loads the power-on values. -/
theorem powerOnSetsTheGatingBlock : Obligations.PowerOnSetsTheGatingBlock :=
  fun _ => ⟨_, rfl, rfl, rfl⟩

/-- Settles O51: the parameters are well formed, the block stands at its power-on values, and no command runs. -/
theorem resetHasTheGatingInvariant : Obligations.ResetHasTheGatingInvariant :=
  { blockInv_powerOn (paramsFit_of_configWf configWf_worked) with
    instanceOk := configWf_worked
    calibration := calFits_zero _
    history := nofun
    writes := nofun, modifies := nofun, backs := nofun, buffer := nofun }

end Sys2Proof.Machine
end

section
/-! PROOFS of the family 43_gating_block.md: what a command's run makes of the gating block, read off its transactions.

With the module used and nothing in flight, a prompt run settles each of its transactions before the next, so the
block it leaves is the one its transactions lead to (`Replays`), whatever the micro-program. What the transactions of each
command are is what the obligations of the families before say. -/

namespace Sys2Proof.Machine

/-! ### Transactions replayed on the block -/

/-- With nothing in flight in the block `g`, the transaction and GTSYNC's step after it lead to the last block; a read returns
what the block then shows (R75 to R81, R258). -/
inductive Settles (c : Config) : Txn → GtState → GtState → Prop
  | write {r : Reg} {m : FieldMap} {g h : GtState} (hw : gtWrite r m g = .ok h) : Settles c (.write r m) g (gtSync c h)
  | write8 {r : Reg} {v : Nat} {free : Option Update} {gate : Bool} {g h : GtState} (hw : gtWrite8 r v free gate g = .ok h) :
    Settles c (.write8 r v) g (gtSync c h)
  | read {r : Reg} {a : Answer} {s : State} (hc : s.cfg = c) : Settles c (.read r (readReg r a s)) s.gt s.gt
  | cal {b : CalBuf} {g : GtState} : Settles c (.cal b) g g

/-- The transactions, the oldest first, lead from the one block to the other. -/
def Replays (c : Config) : List Txn → GtState → GtState → Prop
  | [], g, g' => g' = g
  | x :: xs, g, g' => ∃ h, Settles c x g h ∧ Replays c xs h g'

theorem replays_append_iff {c : Config} {xs ys : List Txn} {g g' : GtState} :
    Replays c (xs ++ ys) g g' ↔ ∃ h, Replays c xs g h ∧ Replays c ys h g' := by
  induction xs generalizing g with
  | nil => simp [Replays]
  | cons x xs ih =>
    simp only [List.cons_append, Replays, ih]
    constructor
    · rintro ⟨h, hx, k, hxs, hys⟩
      exact ⟨k, ⟨h, hx, hxs⟩, hys⟩
    · rintro ⟨k, ⟨h, hx, hxs⟩, hys⟩
      exact ⟨h, hx, k, hxs, hys⟩

/-- What happened between the states `s` and `t`, `g` being the block that `t` is left with. -/
def Replayed (s t : State) (g : GtState) : Prop :=
  ∃ new, t.trace = new ++ s.trace ∧ Replays s.cfg new.reverse s.gt g

theorem replayed_of_settles {s t : State} {g : GtState} {x : Txn} (ht : t.trace = x :: s.trace)
    (hx : Settles s.cfg x s.gt g) : Replayed s t g :=
  ⟨[x], ht, g, hx, rfl⟩

theorem replayed_of_same {s t : State} (hp : s.gt.pending = none) (ht : t.trace = s.trace) (hg : t.gt = s.gt) :
    Replayed s t (gtSync s.cfg t.gt) :=
  ⟨[], ht, by rw [hg, gtSync_of_quiet _ hp]; rfl⟩

theorem portWrite_replayed {r : Reg} {m : FieldMap} {s t : State} (hg : s.cfg.gating = true)
    (h : portWrite r m s = .ok t) : Replayed s (advance t) (gtSync s.cfg t.gt) := by
  obtain ⟨g, rfl, ⟨-, hw⟩ | ⟨hn, -⟩⟩ := portWrite_ok h
  · exact replayed_of_settles rfl (.write hw)
  · exact absurd (hg.symm.trans hn) nofun

theorem portWrite8_replayed {r : Reg} {v : Nat} {a : Answer} {s t : State} (hg : s.cfg.gating = true)
    (h : portWrite8 r v a s = .ok t) : Replayed s (advance t) (gtSync s.cfg t.gt) := by
  obtain ⟨g, rfl, ⟨-, hw⟩ | ⟨hn, -⟩⟩ := portWrite8_ok h
  · exact replayed_of_settles rfl (.write8 hw)
  · exact absurd (hg.symm.trans hn) nofun

/-- One CTC step and GTSYNC's step after it, with the module used and nothing in flight. -/
theorem ctcStep_replayed {a : Answer} {s t : State} (hg : s.cfg.gating = true) (hp : s.gt.pending = none)
    (h : ctcStep a s = .next t) : Replayed s t (gtSync s.cfg t.gt) := by
  have hread : ∀ {r u}, u.trace = .read r (readReg r a s) :: s.trace → u.gt = s.gt →
      Replayed s u (gtSync s.cfg u.gt) := fun ht hgt => by
    rw [hgt, gtSync_of_quiet _ hp]
    exact replayed_of_settles ht (.read rfl)
  rcases ctcStep_next h with ⟨-, rfl⟩ | ⟨op, -, -, he⟩
  · exact replayed_of_same hp rfl rfl
  rcases execMicro_next he with ⟨r, fs, u, -, hu, rfl⟩ | ⟨r, v, u, -, hu, rfl⟩ | ⟨r, -, rfl⟩ | ⟨r, fs, u, -, hu, rfl⟩ |
    ⟨r, pred, back, -, rfl⟩ | ⟨-, rfl⟩ | ⟨g, v, -, rfl⟩ | ⟨c, -, rfl⟩ | ⟨p, -, rfl⟩
  · exact portWrite_replayed hg hu
  · exact portWrite8_replayed hg hu
  · exact hread rfl rfl
  · exact portWrite_replayed hg hu
  · rw [execPoll_eq]
    exact hread rfl rfl
  · refine replayed_of_settles rfl ?_
    show Settles _ _ _ (gtSync s.cfg s.gt)
    rw [gtSync_of_quiet _ hp]
    exact .cal
  · exact replayed_of_same hp rfl rfl
  · exact replayed_of_same hp rfl rfl
  · exact replayed_of_same hp rfl rfl

/-- A prompt run's transactions lead to the block it leaves. -/
theorem replayed_of_prompt {as : List Answer} {s u : State} (hg : s.cfg.gating = true) (hp : s.gt.pending = none)
    (h : runTurns (prompt as) s = .next u) : Replayed s u u.gt := by
  induction as generalizing s with
  | nil =>
    cases h
    exact ⟨[], rfl, rfl⟩
  | cons a as ih =>
    rw [prompt_cons, runTurns, runTurn_ctc] at h
    cases ht : ctcStep a s with
    | next t =>
      rw [ht] at h
      have hcfg : t.cfg = s.cfg := (ctcStep_frame ht).cfg
      obtain ⟨new, htrace, hnew⟩ := ctcStep_replayed hg hp ht
      obtain ⟨new', htrace', hnew'⟩ := ih (s := settle t) (hcfg ▸ hg) (gtSync_pending ..) h
      refine ⟨new' ++ new, ?_, ?_⟩
      · rw [htrace', List.append_assoc]
        exact congrArg (new' ++ ·) htrace
      · rw [List.reverse_append, replays_append_iff]
        exact ⟨_, hcfg ▸ hnew, hcfg ▸ hnew'⟩
    | fault f => simp [ht] at h
    | refused r => simp [ht] at h

/-- What is known of a completed command's transactions says what its gating block is. -/
theorem completesIn_replays {n : Nat} {i : Instr} {s : State} {post post' : State → Prop} (hg : s.cfg.gating = true)
    (hp : s.gt.pending = none) (h : completesIn n i s post)
    (hpost : ∀ u, post u → (∀ new, u.trace = new ++ s.trace → Replays s.cfg new.reverse s.gt u.gt) → post' u) :
    completesIn n i s post' := by
  intro as hn henv
  obtain ⟨t, u, he, hrun, hb, hv, hw, hu⟩ := h as hn henv
  refine ⟨t, u, he, hrun, hb, hv, hw, hpost u hu fun new hnew => ?_⟩
  obtain ⟨p, hissue⟩ := exec_eq_issue i s
  obtain rfl := Host.Outcome.next.inj (hissue.symm.trans he)
  obtain ⟨new', htrace, hreplays⟩ := replayed_of_prompt (s := issue p s) hg hp hrun
  obtain rfl : new' = new := List.append_cancel_right (htrace.symm.trans hnew)
  exact hreplays

/-! ### What each transaction makes of the block -/

/-- The gate is open and nothing is in flight. -/
structure Ready (g : GtState) : Prop where
  opened : g.gten = true
  quiet : g.pending = none

theorem ready_cleared {g : GtState} (h : g.gten = true) : Ready (cleared g) := ⟨h, rfl⟩

theorem Settles.eq_of_read {c : Config} {r : Reg} {x : FieldMap} {g h : GtState} (hs : Settles c (.read r x) g h) :
    h = g := by
  cases hs
  rfl

/-- A write to a register that is not the module's (R80). -/
theorem Settles.eq_of_write {c : Config} {r : Reg} {m : FieldMap} {g h : GtState} (hp : g.pending = none)
    (hr : isGt r = false) (hb : r ≠ .busMask) (hs : Settles c (.write r m) g h) : h = g := by
  cases hs with
  | write hw =>
    obtain rfl : g = _ := by simpa [gtWrite, hr, hb] using hw
    exact gtSync_of_quiet c hp

/-- A full write to BUS.MASK sets the gate (R265). -/
theorem Settles.busMask {c : Config} {m : FieldMap} {g h : GtState} (hp : g.pending = none)
    (hs : Settles c (.write .busMask m) g h) : h = { g with gten := decide (fieldOf m .gt ≠ 0) } := by
  cases hs with
  | write hw =>
    cases hw
    exact gtSync_of_quiet c hp

/-- A full write to a GT register applies the update it records (R255, R258). -/
theorem Settles.update {c : Config} {r : Reg} {m : FieldMap} {u : Update} {g h : GtState} (hg : Ready g)
    (hr : isGt r = true) (hu : writeUpdate r m = some u) (hs : Settles c (.write r m) g h) :
    h = cleared (applyUpdate c u g) := by
  cases hs with
  | write hw =>
    rw [gtWrite_of_isGt hr, hu, recordUpdate_some hg.quiet hg.opened] at hw
    rw [← Except.ok.inj hw, gtSync_recording]

/-- SeqGen's two writes program the generator bank and select it (R150, R260, R261). -/
theorem Settles.seqGen {c : Config} {i : GenId} {d : Nat} {ctl : GenCtl} {m m' : FieldMap} {g g₁ g₂ : GtState}
    (hg : Ready g) (hd : truncateDiv i d = d) (hm : writeUpdate .gtGendiv m = some (.div i d))
    (hm' : writeUpdate .gtGenctrl m' = some (.genctrl i ctl)) (h₁ : Settles c (.write .gtGendiv m) g g₁)
    (h₂ : Settles c (.write .gtGenctrl m') g₁ g₂) :
    g₂ = cleared { g with gens := g.gens.set i { div := d, ctl := ctl }, selGen := i } := by
  have hdiv := h₁.update hg rfl hm
  rw [applyUpdate_div, hd] at hdiv
  subst hdiv
  have hctl := h₂.update (ready_cleared (g := updateGen g i _) hg.opened) rfl hm'
  rw [applyUpdate_genctrl] at hctl
  rw [hctl]
  simp [cleared, updateGen, vector_get_set]

/-- SeqChan's write programs the channel bank and selects it (R151, R263). -/
theorem Settles.seqChan {c : Config} {m : FieldMap} {ch k e : Nat} {g h : GtState} (hg : Ready g) (hch : ch < c.numChannels)
    (hm : writeUpdate .gtClkctrl m = some (.chan ch k e)) (hs : Settles c (.write .gtClkctrl m) g h) :
    h = cleared { g with chans := g.chans.setIfInBounds ch { gen := k, clken := e }, selCh := ch } := by
  rw [hs.update hg rfl hm, applyUpdate, if_pos hch]

/-- The select write of GT.GENCTRL selects the generator (R152, R262). -/
theorem Settles.select {c : Config} {i : GenId} {g h : GtState} (hg : Ready g)
    (hs : Settles c (.write8 .gtGenctrl i) g h) : h = cleared { g with selGen := i } := by
  cases hs with
  | write8 hw =>
    have hi : i.val % 16 = i := Nat.mod_eq_of_lt (by omega)
    rw [gtWrite8_of_isGt rfl, writeUpdate8, recordUpdate_some hg.quiet hg.opened] at hw
    rw [← Except.ok.inj hw, gtSync_recording, applyUpdate, hi, genOfNat_val]

/-- With nothing in flight a Modify of RUNSTDBY that reads the selected bank replaces that field alone (R152, R256, R261). -/
theorem Settles.modifyRunstdby {c : Config} {x m : FieldMap} {e : Nat} {g g₁ h : GtState} (hc : c.gating = true)
    (hg : Ready g) (hb : g.syncbusy = false) (hfits : ctlFits c (g.gens.get g.selGen).ctl = true)
    (hrun : fieldOf m .runstdby = e)
    (hm : ∀ f ∈ regFields .gtGenctrl, f ≠ .runstdby → fieldOf m f = fieldOf x f)
    (h₁ : Settles c (.read .gtGenctrl x) g g₁) (h₂ : Settles c (.write .gtGenctrl m) g₁ h) :
    h = cleared { g with
      gens := g.gens.set g.selGen
        { g.gens.get g.selGen with ctl := { (g.gens.get g.selGen).ctl with runstdby := e } } } := by
  cases h₁ with
  | @read r a s hcfg =>
    subst hcfg
    obtain ⟨hident, hctl, -⟩ := ((gtReadsShowTheirState s a hc).2.2 hg.opened).2.2 hb
    obtain ⟨hsrc, hgenen, hidc, hoe, hdivsel, -⟩ := hctl hfits
    have hkeep : ∀ {f v}, f ∈ regFields .gtGenctrl → f ≠ .runstdby → fieldOf (readReg .gtGenctrl a s) f = v →
        fieldOf m f = v := fun hf hne hv => (hm _ hf hne).trans hv
    have hu : writeUpdate .gtGenctrl m =
        some (.genctrl s.gt.selGen { (s.gt.gens.get s.gt.selGen).ctl with runstdby := e }) := by
      rw [writeUpdate, hrun, hkeep (by decide) (by decide) hident, hkeep (by decide) (by decide) hsrc,
        hkeep (by decide) (by decide) hgenen, hkeep (by decide) (by decide) hidc, hkeep (by decide) (by decide) hoe,
        hkeep (by decide) (by decide) hdivsel]
    rw [h₂.update hg rfl hu, applyUpdate_genctrl]
    rfl

/-- SeqStby selects the generator bank, so its Modify reads that bank and replaces RUNSTDBY (R152). -/
theorem Settles.seqStby {c : Config} {i : GenId} {x m : FieldMap} {e : Nat} {g g₁ g₂ h : GtState} (hc : c.gating = true)
    (hg : Ready g) (hfits : ctlFits c (g.gens.get i).ctl = true) (hrun : fieldOf m .runstdby = e)
    (hm : ∀ f ∈ regFields .gtGenctrl, f ≠ .runstdby → fieldOf m f = fieldOf x f)
    (h₀ : Settles c (.write8 .gtGenctrl i) g g₁) (h₁ : Settles c (.read .gtGenctrl x) g₁ g₂)
    (h₂ : Settles c (.write .gtGenctrl m) g₂ h) :
    h = cleared { g with
      gens := g.gens.set i { g.gens.get i with ctl := { (g.gens.get i).ctl with runstdby := e } }, selGen := i } := by
  obtain rfl := h₀.select hg
  exact h₁.modifyRunstdby hc (ready_cleared (g := { g with selGen := i }) hg.opened) rfl hfits hrun hm h₂

end Sys2Proof.Machine
end

section
/-! PROOFS: what the allocation commands leave in the gating block (R268, R269). -/

namespace Sys2Proof.Machine

/-- Settles O25: the two writes among CLAIM's transactions are SeqGen's. -/
theorem claimProgramsTheGeneratorBank : Obligations.ClaimProgramsTheGeneratorBank := by
  intro g idc k d f s hp hg hopen hquiet hz hd hf hne
  obtain ⟨hd1, hmax⟩ := legalDivider_iff.1 hd
  have hclaim := claimConfiguresTheGenerator g idc k d f s hp (quiet_of_pending fun _ => hquiet) hz hd1 hmax hf hne
  refine completesIn_replays hg hquiet hclaim fun u hu hreplays => ?_
  obtain ⟨-, -, -, -, -, -, -, x₁, x₂, htrace⟩ := hu
  obtain ⟨g₁, hdiv, g₂, hread, g₃, hctl, g₄, hread', hend⟩ := hreplays _ htrace
  obtain rfl := hread.eq_of_read
  obtain rfl := hread'.eq_of_read
  exact (hend.trans (hdiv.seqGen ⟨hopen, hquiet⟩ (truncateDiv_of_legal hd) rfl rfl hctl)).trans (cleared_of_quiet hquiet)

/-- Settles O29: the one write among ENABLE's transactions is SeqChan's. -/
theorem enableProgramsTheChannelBank : Obligations.EnableProgramsTheChannelBank := by
  intro ch g s hp hg hopen hquiet hch h64 hf hu
  have henable := enableIssuesTheToken ch g s hp (quiet_of_pending fun _ => hquiet) hch h64 hf hu
  refine completesIn_replays hg hquiet henable fun u hu hreplays => ?_
  obtain ⟨-, -, -, -, -, -, -, x, htrace⟩ := hu
  obtain ⟨g₁, hchan, g₂, hread, hend⟩ := hreplays _ htrace
  obtain rfl := hread.eq_of_read
  exact (hend.trans (hchan.seqChan ⟨hopen, hquiet⟩ hch rfl)).trans (cleared_of_quiet hquiet)

/-- Settles O31: the select write selects bank g, so the Modify reads that bank and writes it back but for RUNSTDBY. -/
theorem standbyChangesOnlyRunstdby : Obligations.StandbyChangesOnlyRunstdby := by
  intro g en s hp hg hopen hquiet hfits
  refine completesIn_replays hg hquiet (standbyCompletes g en s hp (quiet_of_pending fun _ => hquiet))
    fun u hu hreplays => ?_
  obtain ⟨-, -, -, -, -, -, x₁, x₂, x₃, m, -, htrace, hrun, hkept⟩ := hu
  obtain ⟨g₁, hselect, g₂, hread, g₃, hbank, g₄, hwrite, g₅, hread', hend⟩ := hreplays _ htrace
  obtain rfl := hread.eq_of_read
  obtain rfl := hread'.eq_of_read
  have hbanks := hselect.seqStby hg ⟨hopen, hquiet⟩ hfits hrun hkept hbank hwrite
  exact (hend.trans hbanks).trans (cleared_of_quiet hquiet)

end Sys2Proof.Machine
end

section
/-! PROOFS of the family 43_gating_block.md: what the bring-ups leave in the gating block, read off what they carry.

`Leads` says that a list of `Carries` takes the one block to the other, whatever transactions carry it and whatever follows. It
holds of the few items that concern the module, and of lists in turn (`leads_append`). -/

namespace Sys2Proof.Machine

/-! ### The transactions that carry an item -/

theorem carriesAll_wr_cons {r : Reg} {fs : FieldMap} {cs : List Carries} {ts : List Txn}
    (h : carriesAll (.wr r fs :: cs) ts = true) :
    ∃ m ts', ts = .write r m :: ts' ∧ (∀ f ∈ regFields r, fieldOf m f = fieldOf fs f) ∧ carriesAll cs ts' = true := by
  match ts, h with
  | .write r' m :: ts, h =>
    simp only [carriesAll, Bool.and_eq_true, decide_eq_true_eq, List.all_eq_true] at h
    obtain ⟨⟨⟨rfl, -⟩, hfields⟩, hrest⟩ := h
    exact ⟨m, ts, rfl, hfields, hrest⟩
  | [], h | .write8 _ _ :: _, h | .read _ _ :: _, h | .cal _ :: _, h => cases h

theorem carriesAll_rd_cons {r : Reg} {cs : List Carries} {ts : List Txn} (h : carriesAll (.rd r :: cs) ts = true) :
    ∃ x ts', ts = .read r x :: ts' ∧ carriesAll cs ts' = true := by
  match ts, h with
  | .read r' x :: ts, h =>
    simp only [carriesAll, Bool.and_eq_true, decide_eq_true_eq] at h
    obtain ⟨rfl, hrest⟩ := h
    exact ⟨x, ts, rfl, hrest⟩
  | [], h | .write8 _ _ :: _, h | .write _ _ :: _, h | .cal _ :: _, h => cases h

theorem carriesAll_cal_cons {b : CalBuf} {cs : List Carries} {ts : List Txn} (h : carriesAll (.cal b :: cs) ts = true) :
    ∃ ts', ts = .cal b :: ts' ∧ carriesAll cs ts' = true := by
  match ts, h with
  | .cal b' :: ts, h =>
    simp only [carriesAll, Bool.and_eq_true, decide_eq_true_eq] at h
    obtain ⟨rfl, hrest⟩ := h
    exact ⟨ts, rfl, hrest⟩
  | [], h | .write8 _ _ :: _, h | .write _ _ :: _, h | .read _ _ :: _, h => cases h

theorem carriesAll_modify_cons {r : Reg} {f : RegField} {v : Nat} {cs : List Carries} {ts : List Txn}
    (h : carriesAll (.modify r f v :: cs) ts = true) :
    ∃ x m ts', ts = .read r x :: .write r m :: ts' ∧ (f ∈ regFields r → fieldOf m f = v) ∧ carriesAll cs ts' = true := by
  match ts, h with
  | .read r' x :: .write r'' m :: ts, h =>
    simp only [carriesAll, Bool.and_eq_true, decide_eq_true_eq, List.all_eq_true] at h
    obtain ⟨⟨⟨⟨rfl, rfl⟩, -⟩, hfields⟩, hrest⟩ := h
    exact ⟨x, m, ts, rfl, fun hf => (hfields f hf).trans (if_pos rfl), hrest⟩
  | [], h | .write8 _ _ :: _, h | .write _ _ :: _, h | .cal _ :: _, h | [.read _ _], h | .read _ _ :: .read _ _ :: _, h
  | .read _ _ :: .write8 _ _ :: _, h | .read _ _ :: .cal _ :: _, h => cases h

/-! ### Lists that lead from one block to another -/

/-- Transactions that carry `cs`, then `ds`, come from the block `g` to `g'` with what carries `ds` still to come. -/
def Leads (c : Config) (cs : List Carries) (g g' : GtState) : Prop :=
  ∀ ds ts k, carriesAll (cs ++ ds) ts = true → Replays c ts g k → ∃ ts', carriesAll ds ts' = true ∧ Replays c ts' g' k

theorem Leads.eq_of_replays {c : Config} {cs : List Carries} {ts : List Txn} {g g' k : GtState} (h : Leads c cs g g')
    (hcs : carriesAll cs ts = true) (hts : Replays c ts g k) : k = g' := by
  obtain ⟨ts', hnil, hend⟩ := h [] ts k (by rwa [List.append_nil]) hts
  cases ts' with
  | nil => exact hend
  | cons t ts' => cases hnil

theorem leads_nil (c : Config) (g : GtState) : Leads c [] g g := fun _ ts _ hcs hts => ⟨ts, hcs, hts⟩

theorem leads_append {c : Config} {cs cs' : List Carries} {g₀ g₁ g₂ : GtState} (h : Leads c cs g₀ g₁)
    (h' : Leads c cs' g₁ g₂) : Leads c (cs ++ cs') g₀ g₂ := by
  intro ds ts k hcs hts
  rw [List.append_assoc] at hcs
  obtain ⟨ts', hcs', hts'⟩ := h _ ts k hcs hts
  exact h' ds ts' k hcs' hts'

/-- Nothing of the module is written: an item of another register, or a read. -/
def sparesBlock : Carries → Bool
  | .wr r _ | .modify r _ _ => !isGt r && decide (r ≠ .busMask)
  | .rd _ | .cal _ => true

theorem leads_item_of_spares {c : Config} {x : Carries} {g : GtState} (hp : g.pending = none) (hx : sparesBlock x = true) :
    Leads c [x] g g := by
  intro ds ts k hcs hts
  cases x with
  | wr r fs =>
    obtain ⟨hr, hb⟩ : isGt r = false ∧ r ≠ .busMask := by simpa [sparesBlock] using hx
    obtain ⟨m, ts', rfl, -, hds⟩ := carriesAll_wr_cons hcs
    obtain ⟨g₁, hw, hend⟩ := hts
    obtain rfl := hw.eq_of_write hp hr hb
    exact ⟨ts', hds, hend⟩
  | rd r =>
    obtain ⟨y, ts', rfl, hds⟩ := carriesAll_rd_cons hcs
    obtain ⟨g₁, hread, hend⟩ := hts
    obtain rfl := hread.eq_of_read
    exact ⟨ts', hds, hend⟩
  | modify r f v =>
    obtain ⟨hr, hb⟩ : isGt r = false ∧ r ≠ .busMask := by simpa [sparesBlock] using hx
    obtain ⟨y, m, ts', rfl, -, hds⟩ := carriesAll_modify_cons hcs
    obtain ⟨g₁, hread, g₂, hw, hend⟩ := hts
    obtain rfl := hread.eq_of_read
    obtain rfl := hw.eq_of_write hp hr hb
    exact ⟨ts', hds, hend⟩
  | cal b =>
    obtain ⟨ts', rfl, hds⟩ := carriesAll_cal_cons hcs
    obtain ⟨g₁, hcal, hend⟩ := hts
    cases hcal
    exact ⟨ts', hds, hend⟩

theorem leads_of_spares {c : Config} {cs : List Carries} {g : GtState} (hp : g.pending = none)
    (hcs : cs.all sparesBlock = true) : Leads c cs g g := by
  induction cs with
  | nil => exact leads_nil c g
  | cons x cs ih =>
    obtain ⟨hx, hrest⟩ := Bool.and_eq_true_iff.1 hcs
    exact leads_append (leads_item_of_spares hp hx) (ih hrest)

/-! ### The items that concern the module -/

/-- The bus-clock ungate (R172, R265). -/
theorem leads_ungate (c : Config) {g : GtState} (hp : g.pending = none) :
    Leads c [.modify .busMask .gt 1] g { g with gten := true } := by
  intro ds ts k hcs hts
  obtain ⟨y, m, ts', rfl, hgt, hds⟩ := carriesAll_modify_cons hcs
  obtain ⟨g₁, hread, g₂, hw, hend⟩ := hts
  obtain rfl := hread.eq_of_read
  obtain rfl := hw.busMask hp
  rw [hgt (by decide)] at hend
  exact ⟨ts', hds, hend⟩

/-- The tree as chip power-on leaves it, its gate open. -/
def openTree (c : Config) : GtState := { GtState.powerOn c with gten := true }

theorem ready_openTree (c : Config) : Ready (openTree c) := ⟨rfl, rfl⟩

/-- SeqReset brings the banks and the selections to their power-on values (R146, R259). -/
theorem leads_seqReset {c : Config} {g : GtState} (hg : Ready g) :
    Leads c [.wr .gtCtrl [(.swrst, 1)], .rd .gtCtrl, .rd .gtStatus] g (openTree c) := by
  have hwrite : Leads c [.wr .gtCtrl [(.swrst, 1)]] g (openTree c) := fun ds ts k hcs hts => by
    obtain ⟨m, ts', rfl, hm, hds⟩ := carriesAll_wr_cons hcs
    obtain ⟨g₁, hw, hend⟩ := hts
    have hu : writeUpdate .gtCtrl m = some .reset := by
      rw [writeUpdate, hm .swrst (by decide)]
      rfl
    have hreset := hw.update hg rfl hu
    obtain rfl : g₁ = openTree c := by
      rw [hreset, cleared, openTree, ← hg.opened]
      rfl
    exact ⟨ts', hds, hend⟩
  exact leads_append hwrite (leads_of_spares rfl rfl)

/-- A generator's bank as SeqGen writes it with the divider 1 (R150). -/
def genBank (c : Config) (k : SourceKind) (idc : Nat) : GenBank where
  div := 1
  ctl := { src := srcCode c k, genen := 1, idc := idc, oe := 1, divsel := 0, runstdby := 0 }

/-- SeqGen programs its generator's bank and selects it (R150, R260, R261). -/
theorem leads_seqGen {c : Config} {g : GtState} (hg : Ready g) (i : GenId) (k : SourceKind) (idc : Nat) :
    Leads c (genCarries c i k idc) g (cleared { g with gens := g.gens.set i (genBank c k idc), selGen := i }) := by
  intro ds ts last hcs hts
  obtain ⟨m, ts, rfl, hm, hcs⟩ := carriesAll_wr_cons hcs
  obtain ⟨x, ts, rfl, hcs⟩ := carriesAll_rd_cons hcs
  obtain ⟨m', ts, rfl, hm', hcs⟩ := carriesAll_wr_cons hcs
  obtain ⟨x', ts, rfl, hds⟩ := carriesAll_rd_cons hcs
  obtain ⟨g₁, hdiv, g₂, hread, g₃, hctl, g₄, hread', hend⟩ := hts
  obtain rfl := hread.eq_of_read
  obtain rfl := hread'.eq_of_read
  have hone : ∀ i : GenId, truncateDiv i 1 = 1 := by decide
  have hu : writeUpdate .gtGendiv m = some (.div i 1) := by
    rw [writeUpdate, hm .ident (by decide), hm .div (by decide)]
    rfl
  have hu' : writeUpdate .gtGenctrl m' = some (.genctrl i (genBank c k idc).ctl) := by
    rw [writeUpdate, hm' .ident (by decide), hm' .src (by decide), hm' .genen (by decide), hm' .idc (by decide),
      hm' .oe (by decide), hm' .divsel (by decide), hm' .runstdby (by decide)]
    rfl
  obtain rfl := hdiv.seqGen hg (hone i) hu hu' hctl
  exact ⟨ts, hds, hend⟩

/-- SeqChan programs its channel's bank and selects it (R151, R263). -/
theorem leads_seqChan {c : Config} {g : GtState} (hg : Ready g) {ch : Nat} (hch : ch < c.numChannels) (i : Nat) :
    Leads c [.wr .gtClkctrl [(.ident, ch), (.gen, i), (.clken, 1)], .rd .gtStatus] g
      (cleared { g with chans := g.chans.setIfInBounds ch { gen := i, clken := 1 }, selCh := ch }) := by
  intro ds ts last hcs hts
  obtain ⟨m, ts, rfl, hm, hcs⟩ := carriesAll_wr_cons hcs
  obtain ⟨x, ts, rfl, hds⟩ := carriesAll_rd_cons hcs
  obtain ⟨g₁, hchan, g₂, hread, hend⟩ := hts
  obtain rfl := hread.eq_of_read
  have hu : writeUpdate .gtClkctrl m = some (.chan ch i 1) := by
    rw [writeUpdate, hm .ident (by decide), hm .gen (by decide), hm .clken (by decide)]
    rfl
  obtain rfl := hchan.seqChan hg hch hu
  exact ⟨ts, hds, hend⟩

/-! ### The bring-ups (R171 to R192) -/

/-- The tree once the multiplier's reference feed is programmed from the source `k` (R175). -/
def fedTree (c : Config) (k : SourceKind) : GtState :=
  { openTree c with
    gens := c.genPor.set 1 (genBank c k 0), selGen := 1
    chans := c.chPor.setIfInBounds c.multRefCh { gen := 1, clken := 1 }, selCh := c.multRefCh }

/-- The tree when BRINGUP48 comes to its calibration read: the feed is the oscillator references' alone (R170, R175). -/
def startTree (c : Config) : Variant → GtState
  | .int32k => fedTree c .int32k
  | .ext32k => fedTree c .ext32k
  | .usb | .openLoop => openTree c

theorem ready_startTree (c : Config) (v : Variant) : Ready (startTree c v) := by
  cases v <;> exact ⟨rfl, rfl⟩

/-- The core clock's generator programmed from the source `k`, and selected (R183, R191). -/
def coreSwitched (c : Config) (k : SourceKind) (idc : Nat) (g : GtState) : GtState :=
  cleared { g with gens := g.gens.set 0 (genBank c k idc), selGen := 0 }

theorem leads_coreSwitch {c : Config} {g : GtState} (hg : Ready g) (k : SourceKind) (idc : Nat) :
    Leads c (genCarries c 0 k idc ++ prescCarries c) g (coreSwitched c k idc g) :=
  leads_append (leads_seqGen hg 0 k idc) (leads_of_spares rfl rfl)

theorem leads_start {c : Config} {g : GtState} (hg : Ready g) (hch : c.multRefCh < c.numChannels) (v : Variant) :
    Leads c (startCarries c v) g (startTree c v) := by
  have hfeed : ∀ k, Leads c (genCarries c 1 k 0 ++
      [.wr .gtClkctrl [(.ident, c.multRefCh), (.gen, 1), (.clken, 1)], .rd .gtStatus]) (openTree c) (fedTree c k) := fun k =>
    leads_append (leads_seqGen (ready_openTree c) 1 k 0) (leads_seqChan ⟨rfl, rfl⟩ hch 1)
  have hosc : ∀ {x}, sparesBlock x = true → ∀ k, Leads c ([x, .rd .oscStatus] ++ _) g (fedTree c k) := fun hx k =>
    leads_append (leads_of_spares hg.quiet (by rw [List.all_cons, hx]; rfl)) (leads_append (leads_seqReset hg) (hfeed k))
  cases v with
  | int32k => exact hosc rfl .int32k
  | ext32k => exact hosc rfl .ext32k
  | usb | openLoop => exact leads_seqReset hg

/-- The multiplier is none of the module's (R176 to R182). -/
theorem mult_sparesBlock (c : Config) (b : CalBuf) (v : Variant) :
    (.cal b :: valCarries b ++ ratioCarries c b v ++ modeCarries v).all sparesBlock = true := by
  have hratio : (ratioCarries c b v).all sparesBlock = true := by
    cases v with
    | int32k | ext32k | usb => rfl
    | openLoop =>
      simp only [ratioCarries]
      split <;> rfl
  have hmode : (modeCarries v).all sparesBlock = true := by cases v <;> rfl
  rw [List.all_append, List.all_append, hratio, hmode]
  rfl

theorem leads_bringup48 {c : Config} {g : GtState} (hp : g.pending = none) (hch : c.multRefCh < c.numChannels) (v : Variant)
    (b : CalBuf) : Leads c (bringup48Carries c v b) g (coreSwitched c .mult48m 1 (startTree c v)) := by
  have hungate : Leads c [.modify .flashCtrl .rws c.flashWs48m, .modify .busMask .gt 1] g { g with gten := true } :=
    leads_append (leads_item_of_spares hp rfl) (leads_ungate c hp)
  have hopen : Ready { g with gten := true } := ⟨rfl, hp⟩
  have hready := ready_startTree c v
  have hmult := leads_of_spares (c := c) hready.quiet (mult_sparesBlock c b v)
  have hall := leads_append hungate (leads_append (leads_start hopen hch v)
    (leads_append hmult (leads_coreSwitch hready .mult48m 1)))
  simpa [bringup48Carries, valCarries] using hall

theorem leads_bringup8 {c : Config} {g : GtState} (hp : g.pending = none) :
    Leads c (bringup8Carries c) g (coreSwitched c .rc8m 0 (openTree c)) := by
  have hreset := leads_append (leads_ungate c hp) (leads_seqReset ⟨rfl, hp⟩)
  have hall := leads_append hreset (leads_coreSwitch (ready_openTree c) .rc8m 0)
  simpa [bringup8Carries] using hall

end Sys2Proof.Machine
end

section
/-! PROOFS: what the bring-ups leave in the gating block (43_gating_block.md section 2). -/

namespace Sys2Proof.Machine

/-- Settles O34: `completesIn_bringup48` and BRINGUP8's own statement say what is carried, and that leads to the tree. -/
theorem bringupProgramsTheGeneratorTree : Obligations.BringupProgramsTheGeneratorTree := by
  intro s hp hg hquiet hch bank tree fed
  have hq := quiet_of_pending fun _ => hquiet
  have h48 : ∀ {n v g}, (prog48 s.cfg v).length = n → coreSwitched s.cfg .mult48m 1 (startTree s.cfg v) = g →
      completesIn n (.bringup48 v) s fun u => u.gt = g := fun hn hgt => by
    subst hn hgt
    refine completesIn_replays hg hquiet (completesIn_bringup48 hp hq) fun u hu hreplays => ?_
    obtain ⟨new, htrace, hcarries⟩ := hu.trace
    exact (leads_bringup48 hquiet hch _ u.calbuf).eq_of_replays hcarries (hreplays new htrace)
  refine ⟨h48 rfl rfl, h48 rfl rfl, h48 rfl rfl, h48 (length_prog48_openLoop s.cfg) rfl, ?_⟩
  refine completesIn_replays hg hquiet (bringup8Completes s hp hq) fun u hu hreplays => ?_
  obtain ⟨-, -, -, -, -, -, new, htrace, hcarries, -⟩ := hu
  exact (leads_bringup8 hquiet).eq_of_replays hcarries (hreplays new htrace)

end Sys2Proof.Machine
end

section
/-! PROOFS of the family 60_exceptions.md: what a turn changes while no command runs, and the answer a running command is
bound for.

`boundFor s` is the host's view that the command running in `s` ends in, read off the rest of its micro-program. It names
neither ENV's answers nor the gating block, and no turn of the CTC or of GTSYNC changes it (`boundFor_runTurn`): a write or
a read moves on without a record, a poll that fails goes back over polls alone, and a record or the response is what the
view already counts with. So every run that completes ends in it (R315). -/

namespace Sys2Proof.Machine

/-! ### Turns while no command runs -/

/-- While no command runs, a turn of the CTC or of GTSYNC, and in HALTED a host access too, leaves the sequencer, the
tracker, the response, CMD_LO and the history as they are (R140, R258, R297). -/
theorem runTurn_idle {τ : Turn} {s t : State} (hb : s.busy = false) (hτ : isResetTurn τ = false)
    (hissue : isWorkTurn τ = true ∨ s.phase = .halted) (h : runTurn τ s = .next t) :
    ∃ hi d reply g, t = { s with cmdHi := hi, drop := d, hostReply := reply, gt := g } := by
  cases τ with
  | host a =>
    have hp : s.phase = .halted := hissue.resolve_left nofun
    rcases hostStep_next h with ⟨v, rfl⟩ | ⟨-, rfl⟩ | ⟨-, hne, -⟩ | rfl | ⟨d, rfl⟩
    · exact ⟨_, _, _, _, rfl⟩
    · exact ⟨_, _, _, _, rfl⟩
    · exact absurd hp hne
    · exact ⟨_, _, _, _, rfl⟩
    · exact ⟨_, _, _, _, rfl⟩
  | ctc a =>
    cases (ctcStep_idle hb).symm.trans h
    exact ⟨_, _, _, _, rfl⟩
  | gtsync =>
    cases h
    exact ⟨_, _, _, _, rfl⟩
  | blockReset | powerOn => cases hτ

theorem isResetTurn_of_isWorkTurn {τ : Turn} (h : isWorkTurn τ = true) : isResetTurn τ = false := by
  cases τ with
  | ctc _ | gtsync => rfl
  | host _ | blockReset | powerOn => cases h

/-- No turn of the CTC or of GTSYNC changes PROG (R140, R258). -/
theorem prog_of_isWorkTurn {τ : Turn} {s t : State} (hτ : isWorkTurn τ = true) (h : runTurn τ s = .next t) :
    t.prog = s.prog := by
  cases τ with
  | ctc a => exact (ctcStep_frame h).prog
  | gtsync =>
    cases h
    rfl
  | host _ | blockReset | powerOn => cases hτ

/-! ### The answer a command is bound for -/

/-- What the host sees of a command's result: the response, FT, USAGE and PHASE. -/
structure HostView where
  rspLo : Word
  rspHi : Word
  ft : Vector Word 8
  usage : BitVec 64
  phase : Phase

/-- What the host sees in `s`. -/
def hostView (s : State) : HostView := ⟨s.rspLo, s.rspHi, s.ft, s.usage, s.phase⟩

/-- The host's view once the micro-operations `ops` have run up to their RESP, from FT and USAGE as `x` gives them and the
phase `ph`; none where no RESP comes (R142, R145). -/
def viewAfter (ph : Phase) : List MicroOp → Vector Word 8 × BitVec 64 → Option HostView
  | [], _ => none
  | .resp p :: _, x => some ⟨respLo p, respHi p, x.1, x.2, p.phase.getD ph⟩
  | op :: ops, x => viewAfter ph ops (recordOne x op)

/-- The host's view that the running command is bound for; with none running, the view as it is. -/
def boundFor (s : State) : Option HostView :=
  if s.busy then viewAfter s.phase (s.prog.drop s.mpc) (s.ft, s.usage) else some (hostView s)

theorem viewAfter_cons {op : MicroOp} (h : isResp op = false) (ph : Phase) (ops : List MicroOp)
    (x : Vector Word 8 × BitVec 64) : viewAfter ph (op :: ops) x = viewAfter ph ops (recordOne x op) := by
  cases op with
  | resp _ => cases h
  | wr _ _ | wr8 _ _ | rd _ | wrm _ _ | poll _ _ _ | cal | setft _ _ | setuse _ => rfl

theorem boundFor_idle {s : State} (hb : s.busy = false) : boundFor s = some (hostView s) := by
  simp [boundFor, hb]

theorem boundFor_busy {s : State} (hb : s.busy = true) {op : MicroOp} (hop : s.prog[s.mpc]? = some op) :
    boundFor s = viewAfter s.phase (op :: s.prog.drop (s.mpc + 1)) (s.ft, s.usage) := by
  rw [boundFor, if_pos hb, drop_of_getElem? hop]

/-- While a command runs, what it is bound for does not depend on the response it has not given yet. -/
theorem boundFor_congr {s t : State} (h : SameTracker s t) (hb : s.busy = true) : boundFor t = boundFor s := by
  simp only [boundFor, h.busy, h.phase, h.prog, h.mpc, h.ft, h.usage, hb, if_true]

/-- A micro-operation that spares the tracker may be stepped over, forwards or backwards. -/
theorem boundFor_move {s : State} {k : Nat} {op : MicroOp} (hb : s.busy = true) (hop : s.prog[k]? = some op)
    (hs : sparesTracker op = true) : boundFor { s with mpc := k + 1 } = boundFor { s with mpc := k } := by
  have hr : isResp op = false := by
    rw [sparesTracker, Bool.and_eq_true] at hs
    simpa using hs.2
  rw [boundFor_busy (s := { s with mpc := k }) hb hop, viewAfter_cons hr, recordOne_of_spares hs, boundFor, if_pos hb]

/-- A poll goes back to itself or to the poll before it (R143, R146). -/
theorem boundFor_movedBack {s : State} (hb : s.busy = true) (hbacks : backsOk false s.prog = true) {r : Reg}
    {pred : List (RegField × Nat)} {back : Nat} (hop : s.prog[s.mpc]? = some (.poll r pred back)) :
    boundFor { s with mpc := s.mpc - back } = boundFor s := by
  rcases backsOk_poll hbacks s.mpc hop with rfl | ⟨rfl, ⟨-, hf⟩ | ⟨j, r', p', b', hj, hpoll⟩⟩
  · rfl
  · cases hf
  · have hback : s.mpc - 1 = j := by omega
    rw [hback, ← boundFor_move hb hpoll rfl, ← hj]

/-! ### Runs -/

/-- No turn of the CTC or of GTSYNC, whatever ENV answers, changes what a command is bound for (R315). -/
theorem boundFor_runTurn {τ : Turn} {s t : State} (hτ : isWorkTurn τ = true) (hbacks : backsOk false s.prog = true)
    (h : runTurn τ s = .next t) : boundFor t = boundFor s := by
  have hreset := isResetTurn_of_isWorkTurn hτ
  cases hb : s.busy with
  | false =>
    obtain ⟨hi, d, reply, g, rfl⟩ := runTurn_idle hb hreset (.inl hτ) h
    exact (boundFor_idle hb).trans (boundFor_idle (s := s) hb).symm
  | true =>
    cases runTurn_effect h with
    | reset hr => simp [hreset] at hr
    | unchanged hsame => exact boundFor_congr hsame hb
    | issued _ hidle => simp [hb] at hidle
    | movedOn op _ hop hs hsame => exact (boundFor_congr hsame hb).trans (boundFor_move hb hop hs)
    | movedBack r pred back _ hop hsame => exact (boundFor_congr hsame hb).trans (boundFor_movedBack hb hbacks hop)
    | recordedFreq g v _ hop ht =>
      rw [ht, boundFor_busy hb hop, viewAfter_cons rfl]
      exact if_pos hb
    | recordedUse ch _ hop ht =>
      rw [ht, boundFor_busy hb hop, viewAfter_cons rfl]
      exact if_pos hb
    | responded p _ hop ht =>
      rw [ht, boundFor_busy hb hop]
      rfl

/-- A run of turns of the CTC and GTSYNC that completes ends in what its command was bound for (R315). -/
theorem hostView_of_run {ts : List Turn} {s u : State} (hts : ∀ τ ∈ ts, isWorkTurn τ = true)
    (hbacks : backsOk false s.prog = true) (h : runTurns ts s = .next u) (hu : u.busy = false) :
    boundFor s = some (hostView u) := by
  induction ts generalizing s with
  | nil =>
    cases h
    exact boundFor_idle hu
  | cons τ ts ih =>
    obtain ⟨hτ, hts⟩ := List.forall_mem_cons.1 hts
    rw [runTurns] at h
    cases ht : runTurn τ s with
    | next t =>
      rw [ht] at h
      rw [← boundFor_runTurn hτ hbacks ht]
      exact ih hts (prog_of_isWorkTurn hτ ht ▸ hbacks) h
    | fault f => simp [ht] at h
    | refused r => simp [ht] at h

end Sys2Proof.Machine
end

section
/-! PROOFS: the obligations of the family 60_exceptions.md. -/

namespace Sys2Proof.Machine

/-! ### HALTED (60_exceptions.md section 2) -/

/-- Settles O58: no command runs in HALTED and none is issued there (`runTurn_idle`). -/
theorem haltedStaysHalted : Obligations.HaltedStaysHalted := by
  intro s t hs hp hτ h
  obtain ⟨ag, ix, htake⟩ := takeTurn_eq s
  have hb := hs.haltedIdle hp
  rw [step_eq, htake] at h
  obtain ⟨hi, d, reply, g, rfl⟩ :=
    runTurn_idle (s := { s with agenda := ag, drawIx := ix }) hb hτ (.inr hp) h
  exact ⟨decide_eq_true hp, hp, hb, rfl, rfl, rfl, rfl, rfl, rfl, rfl⟩

/-! ### What the environment cannot do (60_exceptions.md section 8) -/

/-- Settles O60: both runs end in the one view that the issued command is bound for (`hostView_of_run`). -/
theorem environmentCannotChangeTheAnswer : Obligations.EnvironmentCannotChangeTheAnswer := by
  intro i s t u₁ u₂ ts₁ ts₂ he hts₁ hts₂ hrun₁ hrun₂ hb₁ hb₂
  obtain ⟨p, hp, rfl⟩ := exec_issuedProg he
  have hsame : some (hostView u₁) = some (hostView u₂) :=
    (hostView_of_run hts₁ hp.backsOk hrun₁ hb₁).symm.trans (hostView_of_run hts₂ hp.backsOk hrun₂ hb₂)
  simpa [hostView] using hsame

end Sys2Proof.Machine
end

section
/-! PROOFS of the family 70_reset_and_hazards.md: under `ENV_FAIR` no command hangs.

`Hangs sched s` says that the schedule goes on for ever with the command of `s` running. A command that never ends hangs
(`ends_or_hangs`): while one runs, only its RESP lowers BUSY, and a host store issues nothing. In a hang every MPC that is
reached is passed (`Hangs.mpc_advances`), because `ENV_FAIR` brings a CTC turn that goes on from it; a poll that goes back
meanwhile does no harm, since its own answer comes at that same MPC. So MPC would outrun the micro-program. GTSYNC's
fairness is not needed: that polls hold is `ENV_FAIR`'s own word, and that no write meets an update in flight is part of a
run that nothing stops. -/

namespace Sys2Proof.Machine

/-! ### One turn of a running command -/

/-- A turn that does not reset the block ends the running command with its response or leaves it running (R140, R145). -/
theorem runTurn_running {τ : Turn} {s t : State} (hb : s.busy = true) (hτ : isResetTurn τ = false)
    (h : runTurn τ s = .next t) : (t.busy = false ∧ t.rspValid = true) ∨ (t.busy = true ∧ t.prog = s.prog) := by
  cases runTurn_effect h with
  | reset hr => simp [hτ] at hr
  | unchanged hsame => exact .inr ⟨hsame.busy.trans hb, hsame.prog⟩
  | issued _ hidle => simp [hb] at hidle
  | movedOn _ _ _ _ hsame => exact .inr ⟨hsame.busy.trans hb, hsame.prog⟩
  | movedBack _ _ _ _ _ hsame => exact .inr ⟨hsame.busy.trans hb, hsame.prog⟩
  | recordedFreq _ _ _ _ ht => exact .inr (by simp [ht, hb])
  | recordedUse _ _ _ ht => exact .inr (by simp [ht, hb])
  | responded _ _ _ ht => exact .inl (by simp [ht])

/-- While a command runs, a turn of HOST or GTSYNC leaves MPC as it is (R33, R140, R258). -/
theorem mpc_of_no_ctc {τ : Turn} {s t : State} (hb : s.busy = true) (hτ : isResetTurn τ = false)
    (hctc : ∀ a, τ ≠ .ctc a) (h : runTurn τ s = .next t) : t.mpc = s.mpc := by
  cases τ with
  | host a =>
    rcases hostStep_next h with ⟨v, rfl⟩ | ⟨-, rfl⟩ | ⟨hidle, -⟩ | rfl | ⟨d, rfl⟩
    case inr.inr.inl => simp [hb] at hidle
    all_goals rfl
  | ctc a => exact absurd rfl (hctc a)
  | gtsync =>
    cases h
    rfl
  | blockReset | powerOn => cases hτ

/-- ENV's answer `a` satisfies the poll at MPC, if a poll stands there. -/
def answersPoll (a : Answer) (s : State) : Prop :=
  ∀ r pred back, s.prog[s.mpc]? = some (.poll r pred back) → pollHolds pred (readReg r a s) = true

/-- A CTC step that does not end its command goes on to MPC + 1 when a poll it meets holds (R142). -/
theorem ctcStep_mpc {a : Answer} {s t : State} (hb : s.busy = true) (ht : t.busy = true) (hpoll : answersPoll a s)
    (h : ctcStep a s = .next t) : s.mpc < s.prog.length ∧ t.mpc = s.mpc + 1 := by
  obtain ⟨hidle, -⟩ | ⟨op, -, hop, he⟩ := ctcStep_next h
  · simp [hb] at hidle
  refine ⟨(List.getElem?_eq_some_iff.1 hop).1, ?_⟩
  rcases execMicro_next he with ⟨r, fs, u, rfl, hw, rfl⟩ | ⟨r, v, u, rfl, hw, rfl⟩ | ⟨r, rfl, rfl⟩ |
    ⟨r, fs, u, rfl, hw, rfl⟩ | ⟨r, pred, back, rfl, rfl⟩ | ⟨rfl, rfl⟩ | ⟨g, v, rfl, rfl⟩ | ⟨c, rfl, rfl⟩ | ⟨p, rfl, rfl⟩
  · exact (sameTracker_portWrite hw).mpc
  · exact (sameTracker_portWrite8 hw).mpc
  · rfl
  · exact (sameTracker_portWrite hw).mpc
  · rw [execPoll_eq, hpoll r pred back hop]
    rfl
  · rfl
  · rfl
  · rfl
  · simp at ht

/-! ### Endless schedules -/

theorem stateAt_succ {sched : Nat → Turn} {s u v : State} {n : Nat} (hu : stateAt sched s n = some u)
    (hv : stateAt sched s (n + 1) = some v) : runTurn (sched n) u = .next v := by
  rw [stateAt, hu] at hv
  cases hrun : runTurn (sched n) u with
  | next w => simpa [hrun] using hv
  | fault f => simp [hrun] at hv
  | refused r => simp [hrun] at hv

/-- The schedule goes on for ever with the command of `s` running (R340). -/
def Hangs (sched : Nat → Turn) (s : State) : Prop :=
  ∀ n, ∃ u, stateAt sched s n = some u ∧ u.busy = true ∧ u.prog = s.prog

/-- With no reset and nothing that stops the run, a running command ends with its response or hangs (R302). -/
theorem ends_or_hangs {sched : Nat → Turn} {s : State} (hb : s.busy = true) (hτ : ∀ n, isResetTurn (sched n) = false)
    (hgo : ∀ n, stateAt sched s n ≠ none) :
    (∃ n u, stateAt sched s n = some u ∧ u.busy = false ∧ u.rspValid = true) ∨ Hangs sched s := by
  by_cases hend : ∃ n u, stateAt sched s n = some u ∧ u.busy = false ∧ u.rspValid = true
  · exact .inl hend
  refine .inr fun n => ?_
  induction n with
  | zero => exact ⟨s, rfl, hb, rfl⟩
  | succ n ih =>
    obtain ⟨u, hu, hub, hup⟩ := ih
    obtain ⟨v, hv⟩ := Option.ne_none_iff_exists'.1 (hgo (n + 1))
    rcases runTurn_running hub (hτ n) (stateAt_succ hu hv) with hdone | ⟨hvb, hvp⟩
    · exact absurd ⟨n + 1, v, hv, hdone⟩ hend
    · exact ⟨v, hv, hvb, hvp.trans hup⟩

section Hanging

variable {sched : Nat → Turn} {s u : State} {n : Nat}

theorem Hangs.running (hs : Hangs sched s) (hu : stateAt sched s n = some u) : u.busy = true ∧ u.prog = s.prog := by
  obtain ⟨v, hv, h⟩ := hs n
  cases hu.symm.trans hv
  exact h

/-- Until the CTC's next turn MPC stays where it is. -/
theorem Hangs.next_ctc (hs : Hangs sched s) (hτ : ∀ n, isResetTurn (sched n) = false) {d : Nat} {a : Answer}
    (hu : stateAt sched s n = some u) (hctc : sched (n + d) = .ctc a) :
    ∃ m v b, stateAt sched s m = some v ∧ sched m = .ctc b ∧ v.mpc = u.mpc := by
  induction d generalizing n u with
  | zero => exact ⟨n, u, a, hu, hctc, rfl⟩
  | succ d ih =>
    by_cases hn : ∃ b, sched n = .ctc b
    · obtain ⟨b, hb⟩ := hn
      exact ⟨n, u, b, hu, hb, rfl⟩
    · obtain ⟨v, hv, -⟩ := hs (n + 1)
      have hmpc : v.mpc = u.mpc :=
        mpc_of_no_ctc (hs.running hu).1 (hτ n) (fun b hb => hn ⟨b, hb⟩) (stateAt_succ hu hv)
      rw [← hmpc]
      exact ih hv (by rwa [show n + 1 + d = n + (d + 1) by omega])

/-- `ENV_FAIR` brings every MPC that a hang reaches a CTC turn whose answer satisfies the poll there, if it is one
(R340, R341). -/
theorem Hangs.answered_ctc (hs : Hangs sched s) (hfair : EnvFair sched s) (hτ : ∀ n, isResetTurn (sched n) = false)
    (hu : stateAt sched s n = some u) :
    ∃ m v a, stateAt sched s m = some v ∧ sched m = .ctc a ∧ v.mpc = u.mpc ∧ answersPoll a v := by
  obtain ⟨hub, hup⟩ := hs.running hu
  by_cases hpoll : ∃ r pred back, u.prog[u.mpc]? = some (.poll r pred back)
  · obtain ⟨r, pred, back, hop⟩ := hpoll
    obtain ⟨m, -, hreset | ⟨v, a, hv, hm, -, hmpc, hholds⟩⟩ := hfair.pollsHold n u r pred back hu hub hop
    · simp [hτ m] at hreset
    · refine ⟨m, v, a, hv, hm, hmpc, fun r' pred' back' hop' => ?_⟩
      rw [hmpc, (hs.running hv).2, ← hup, hop] at hop'
      cases hop'
      exact hholds
  · obtain ⟨m, hnm, a, hm⟩ := hfair.ctcSteps n u hu hub
    obtain ⟨m', v, b, hv, hm', hmpc⟩ := hs.next_ctc hτ hu (d := m - n) (by rwa [Nat.add_sub_cancel' hnm])
    refine ⟨m', v, b, hv, hm', hmpc, fun r pred back hop => absurd ⟨r, pred, back, ?_⟩ hpoll⟩
    rwa [hmpc, (hs.running hv).2, ← hup] at hop

/-- In a fair hang every MPC that is reached stands in the micro-program, and the next one is reached too. -/
theorem Hangs.mpc_advances (hs : Hangs sched s) (hfair : EnvFair sched s) (hτ : ∀ n, isResetTurn (sched n) = false)
    (hu : stateAt sched s n = some u) :
    u.mpc < s.prog.length ∧ ∃ m v, stateAt sched s m = some v ∧ v.mpc = u.mpc + 1 := by
  obtain ⟨m, v, a, hv, hm, hmpc, hanswer⟩ := hs.answered_ctc hfair hτ hu
  obtain ⟨w, hw, hwb, -⟩ := hs (m + 1)
  obtain ⟨hvb, hvp⟩ := hs.running hv
  have hrun := stateAt_succ hv hw
  rw [hm, runTurn_ctc] at hrun
  obtain ⟨hlt, hnext⟩ := ctcStep_mpc hvb hwb hanswer hrun
  rw [hmpc, hvp] at hlt
  exact ⟨hlt, m + 1, w, hw, by rw [hnext, hmpc]⟩

end Hanging

/-- Under `ENV_FAIR` nothing hangs: MPC would outrun the micro-program (R340). -/
theorem not_hangs_of_envFair {sched : Nat → Turn} {s : State} (hfair : EnvFair sched s)
    (hτ : ∀ n, isResetTurn (sched n) = false) : ¬ Hangs sched s := by
  intro hs
  have hreach : ∀ k, ∃ n u, stateAt sched s n = some u ∧ k ≤ u.mpc := by
    intro k
    induction k with
    | zero => exact ⟨0, s, rfl, Nat.zero_le _⟩
    | succ k ih =>
      obtain ⟨n, u, hu, hk⟩ := ih
      obtain ⟨-, m, v, hv, hmpc⟩ := hs.mpc_advances hfair hτ hu
      exact ⟨m, v, hv, by omega⟩
  obtain ⟨n, u, hu, hlen⟩ := hreach s.prog.length
  exact absurd (hs.mpc_advances hfair hτ hu).1 (Nat.not_lt.2 hlen)

end Sys2Proof.Machine
end

section
/-! PROOFS: the obligations of the family 70_reset_and_hazards.md. -/

namespace Sys2Proof.Machine

/-- Settles O59: an issued command runs, so it ends or hangs, and a fair schedule rules the hang out. -/
theorem fairCommandsEnd : Obligations.FairCommandsEnd := by
  intro i s t sched he hfair hτ hgo
  obtain ⟨p, -, rfl⟩ := exec_issuedProg he
  exact (ends_or_hangs rfl hτ hgo).resolve_right (not_hangs_of_envFair hfair hτ)

/-- Settles O15: block reset is a step of every state, and `blockReset` names neither the gating block, the history nor the
parameters. -/
theorem blockResetKeepsTheExternalRegisters : Obligations.BlockResetKeepsTheExternalRegisters :=
  fun s => ⟨blockReset s, runTurn_blockReset s, blockReset_gt s, blockReset_trace s, blockReset_cfg s, blockReset_busy s,
    blockReset_phase s⟩

end Sys2Proof.Machine
end

section
/-! PROOFS of the statements about the model's own choices: the agenda (assumption 4), the placing of a command word
(assumption 6) and the parameters in the state (assumption 3).

No turn reads the agenda, so running a turn commutes with putting another agenda into the state (`runTurn_withAgenda`).
That a turn leaves the agenda as it is, is the case of the agenda it already holds (`agenda_of_runTurn`). -/

namespace Sys2Proof.Machine

/-! ### The parameters in the state -/

/-- No turn changes the parameters, each kind of effect by its own equation. -/
theorem cfg_of_runTurn {τ : Turn} {s t : State} (h : runTurn τ s = .next t) : t.cfg = s.cfg := by
  cases runTurn_effect h with
  | reset _ hsame => exact hsame.cfg
  | unchanged hsame => exact hsame.cfg
  | issued v _ _ hi =>
    obtain ⟨p, rfl⟩ := issueWord_next hi
    rfl
  | movedOn _ _ _ _ hsame => exact hsame.cfg
  | movedBack _ _ _ _ _ hsame => exact hsame.cfg
  | recordedFreq _ _ _ _ ht => simp [ht]
  | recordedUse _ _ _ ht => simp [ht]
  | responded _ _ _ ht => simp [ht]

/-! ### The placed word -/

theorem decode_of_decodeTableWord {nbits w : Nat} {i : Instr} (h : decodeTableWord nbits w = some i) :
    ∃ c, tableWord nbits w = some c ∧ decode c = .ok i := by
  unfold decodeTableWord at h
  split at h
  · rename_i c hc
    refine ⟨c, hc, ?_⟩
    cases hd : decode c with
    | ok j => simpa [hd, Except.toOption] using h
    | error e => simp [hd, Except.toOption] at h
  · cases h

/-- The two halves that the window holds are the word (R82, R100). -/
theorem window_halves (c : CmdWord) : c.extractLsb' 32 32 ++ c.extractLsb' 0 32 = c := by
  simp only [BitVec.extractLsb'_append_extractLsb'_eq_extractLsb', BitVec.extractLsb'_eq_self]

/-- The step after a word is placed is the CMD_LO store of its low half, with its high half in CMD_HI. -/
theorem step_placeCommand (c : CmdWord) (s : State) :
    step (placeCommand c s) =
      stepWith (.host (hostStoreAt s.cfg 0x00 (c.extractLsb' 0 32)))
        { s with busy := false, cmdHi := c.extractLsb' 32 32 } := rfl

/-! ### The agenda -/

/-- The state with another agenda. -/
def withAgenda (ag : List Turn) (s : State) : State := { s with agenda := ag }

/-- A step's outcome with another agenda in the state it goes on to. -/
def outcomeWithAgenda (ag : List Turn) : Host.Outcome State Fault Refusal → Host.Outcome State Fault Refusal
  | .next s => .next (withAgenda ag s)
  | .fault f => .fault f
  | .refused r => .refused r

section Agenda

variable (ag : List Turn)

theorem exec_withAgenda (i : Instr) (s : State) : exec i (withAgenda ag s) = outcomeWithAgenda ag (exec i s) := by
  cases i <;> rfl

theorem issueWord_withAgenda (s : State) : issueWord (withAgenda ag s) = outcomeWithAgenda ag (issueWord s) := by
  rcases issueWord_cases s with ⟨i, hd, he⟩ | ⟨e, hd, he⟩
  · rw [he, ← exec_withAgenda]
    simp [issueWord, withAgenda, hd]
  · rw [he, issueWord_of_reject (s := withAgenda ag s) hd]
    rfl

theorem storeCmdLo_withAgenda (v : Word) (s : State) :
    storeCmdLo v (withAgenda ag s) = outcomeWithAgenda ag (storeCmdLo v s) := by
  rw [storeCmdLo, storeCmdLo, apply_ite (outcomeWithAgenda ag), ← issueWord_withAgenda]
  rfl

theorem windowStore_withAgenda (r : WinReg) (v : Word) (s : State) :
    windowStore r v (withAgenda ag s) = outcomeWithAgenda ag (windowStore r v s) := by
  cases r with
  | cmdLo => exact storeCmdLo_withAgenda ag v { s with hostReply := .stored }
  | cmdHi | csr | rspLo | rspHi | freq _ | usageLo | usageHi | param => rfl

theorem windowValue_withAgenda (r : WinReg) (s : State) : windowValue r (withAgenda ag s) = windowValue r s := by
  cases r <;> rfl

theorem windowAccess_withAgenda (a : HostAccess) (off : Nat) (s : State) :
    windowAccess a off (withAgenda ag s) = outcomeWithAgenda ag (windowAccess a off s) := by
  simp only [windowAccess, apply_ite (outcomeWithAgenda ag)]
  cases windowReg off with
  | none => rfl
  | some r =>
    simp only [apply_ite (outcomeWithAgenda ag), windowStore_withAgenda, windowValue_withAgenda]
    rfl

theorem hostStep_withAgenda (a : HostAccess) (s : State) :
    hostStep a (withAgenda ag s) = outcomeWithAgenda ag (hostStep a s) := by
  rw [hostStep, hostStep, apply_ite (outcomeWithAgenda ag), ← windowAccess_withAgenda]
  rfl

theorem portWrite_withAgenda (r : Reg) (m : FieldMap) (s : State) :
    portWrite r m (withAgenda ag s) = (portWrite r m s).map (withAgenda ag) := by
  rw [portWrite, portWrite, apply_ite (Except.map _)]
  refine ite_congr rfl (fun _ => ?_) fun _ => rfl
  simp only [withAgenda]
  cases gtWrite r m s.gt <;> rfl

theorem portWrite8_withAgenda (r : Reg) (v : Nat) (a : Answer) (s : State) :
    portWrite8 r v a (withAgenda ag s) = (portWrite8 r v a s).map (withAgenda ag) := by
  rw [portWrite8, portWrite8, apply_ite (Except.map _)]
  refine ite_congr rfl (fun _ => ?_) fun _ => rfl
  simp only [withAgenda]
  cases gtWrite8 r v (a.byteUpdate.map (cutUpdate s.cfg)) a.byteGate s.gt <;> rfl

theorem afterWrite_withAgenda (e : Except Fault State) :
    afterWrite (e.map (withAgenda ag)) = outcomeWithAgenda ag (afterWrite e) := by
  cases e <;> rfl

theorem execMicro_withAgenda (op : MicroOp) (a : Answer) (s : State) :
    execMicro op a (withAgenda ag s) = outcomeWithAgenda ag (execMicro op a s) := by
  cases op with
  | wr r fs | wrm r fs =>
    exact (congrArg afterWrite (portWrite_withAgenda ag r _ s)).trans (afterWrite_withAgenda ag _)
  | wr8 r v => exact (congrArg afterWrite (portWrite8_withAgenda ag r v a s)).trans (afterWrite_withAgenda ag _)
  | poll r pred back =>
    simp only [execMicro, execPoll_eq]
    rfl
  | rd _ | cal | setft _ _ | setuse _ | resp _ => rfl

theorem ctcStep_withAgenda (a : Answer) (s : State) :
    ctcStep a (withAgenda ag s) = outcomeWithAgenda ag (ctcStep a s) := by
  cases hb : s.busy with
  | false =>
    rw [ctcStep_idle hb, ctcStep_idle (s := withAgenda ag s) hb]
    rfl
  | true =>
    cases hop : s.prog[s.mpc]? with
    | some op =>
      rw [ctcStep_busy hb hop, ctcStep_busy (s := withAgenda ag s) hb hop]
      exact execMicro_withAgenda ag op a s
    | none => simp [ctcStep, withAgenda, hb, hop, outcomeWithAgenda]

/-- No turn reads the agenda or changes it. -/
theorem runTurn_withAgenda (τ : Turn) (s : State) :
    runTurn τ (withAgenda ag s) = outcomeWithAgenda ag (runTurn τ s) := by
  cases τ with
  | host a => exact hostStep_withAgenda ag a s
  | ctc a => exact ctcStep_withAgenda ag a s
  | gtsync | blockReset | powerOn => rfl

end Agenda

/-- A turn leaves the agenda as it is: it commutes with putting there what is there. -/
theorem agenda_of_runTurn {τ : Turn} {s t : State} (h : runTurn τ s = .next t) : t.agenda = s.agenda := by
  have hsame : runTurn τ s = outcomeWithAgenda s.agenda (runTurn τ s) := runTurn_withAgenda s.agenda τ s
  rw [h] at hsame
  have ht : t = withAgenda s.agenda t := Host.Outcome.next.inj hsame
  calc
    t.agenda = (withAgenda s.agenda t).agenda := congrArg State.agenda ht
    _ = s.agenda := rfl

/-- Running the turn at the head of the agenda is running it on the state that holds the rest. -/
theorem step_scripted (τ : Turn) (ts : List Turn) (s : State) :
    step (withAgenda (τ :: ts ++ s.agenda) s) = outcomeWithAgenda (ts ++ s.agenda) (runTurn τ s) :=
  (step_agenda τ (withAgenda (ts ++ s.agenda) s)).trans (runTurn_withAgenda (ts ++ s.agenda) τ s)

/-- As many steps as turns are scripted run those turns, and leave the rest of the agenda as it was. -/
theorem runSteps_scripted (ts : List Turn) (s : State) :
    runSteps ts.length (withAgenda (ts ++ s.agenda) s) = runTurns ts s := by
  induction ts generalizing s with
  | nil => rfl
  | cons τ ts ih =>
    rw [List.length_cons, runSteps, step_scripted, runTurns]
    cases h : runTurn τ s with
    | next t =>
      rw [← agenda_of_runTurn h]
      exact ih t
    | fault f => rfl
    | refused r => rfl

end Sys2Proof.Machine
end

section
/-! PROOFS: the obligations about the model's own choices, and that no step changes the parameters. -/

namespace Sys2Proof.Machine

/-- Settles O6, by induction on the turns (`runSteps_scripted`). -/
theorem agendaRunsTurnByTurn : Obligations.AgendaRunsTurnByTurn := runSteps_scripted

/-- Settles O5: the step is the CMD_LO store of the low half, and O4 says what that store runs. -/
theorem placedWordIsRunByTheNextStep : Obligations.PlacedWordIsRunByTheNextStep := by
  intro s nbits w i hp h
  obtain ⟨c, hc, hd⟩ := decode_of_decodeTableWord h
  refine ⟨c, hc, ?_⟩
  rw [State.withFetchWord, hc]
  calc step (placeCommand c s)
    _ = stepWith (.host (hostStoreAt s.cfg 0x00 (c.extractLsb' 0 32)))
          { s with busy := false, cmdHi := c.extractLsb' 32 32 } := step_placeCommand c s
    _ = _ := stepRunsTheDecodedCommand _ _ i rfl hp ((window_halves c).symm ▸ hd)

/-- Settles O48: taking a turn changes the model's own fields only, and no turn changes the parameters (`cfg_of_runTurn`). -/
theorem stepKeepsTheInstance : Obligations.StepKeepsTheInstance :=
  fun s _ h => (cfg_of_runTurn h).trans (sameTracker_takeTurn s).cfg

end Sys2Proof.Machine
end
